-- ==== Sys2Proof/Word.lean ====
section
/-! DEFINITION. The plain words and small value types of the mjlib multiplex frame codec block
(spec/00_scope.md R8 to R14, spec/10_state.md R25). -/

namespace Sys2Proof

/-- A byte, the unit every port moves (00_scope.md R8; 20_memory.md R67). -/
abbrev Byte := BitVec 8

/-- A byte sequence (00_scope.md R9). -/
abbrev Bytes := List Byte

/-- A 7-bit source or destination id (20_memory.md R72). -/
abbrev Id7 := BitVec 7

/-- A 32-bit unsigned operand (44_register_encoder.md R248). -/
abbrev U32 := BitVec 32

/-- The value of a received varuint: 35 bits (40_varuint.md R138). -/
abbrev VuValue := BitVec 35

/-- The 2-bit type tag of a register value (00_scope.md R14). -/
inductive TypeTag where
  | int8 | int16 | int32 | float
deriving DecidableEq, Repr, Inhabited

/-- A typed value: its tag is its constructor and its pattern has exactly the width of the type
(00_scope.md R14, 92_eei_decisions.md D41). A float is its binary32 pattern, carried unchanged. -/
inductive TV where
  | i8 (b : BitVec 8)
  | i16 (b : BitVec 16)
  | i32 (b : BitVec 32)
  | f32 (b : BitVec 32)
deriving DecidableEq, Repr, Inhabited

/-- An entry of the reply map: a typed value or an error code below 2^35 (10_state.md R34). -/
inductive Entry where
  | val (v : TV)
  | err (code : VuValue)
deriving DecidableEq, Repr, Inhabited

/-- The varuint decoder's scratch registers VU_ACC, VU_SHIFT, VU_CNT (10_state.md R25). -/
structure VuRegs where
  acc : BitVec 35
  shift : BitVec 6
  cnt : BitVec 3
deriving DecidableEq, Repr, Inhabited

/-- The value VU_DEC gives the scratch registers before it reads a byte (40_varuint.md R134). -/
def VuRegs.zero : VuRegs := ⟨0, 0, 0⟩

/-- The result of VU_DEC (40_varuint.md R134); `overlong` is the fatal fault of R135. -/
inductive VuResult where
  | value (v : VuValue) (n : Nat)
  | noData
  | truncated
  | overlong
deriving DecidableEq, Repr, Inhabited

/-- The bytes a parser reads, its cursor CUR, and the varuint scratch registers
(45_register_reply_decoder.md R266). -/
structure Reader where
  pay : Bytes
  cur : Nat
  vu : VuRegs
deriving DecidableEq, Repr, Inhabited

/-- Where an instruction of the opcode table stands: a host command on a requester's command port
(10_state.md R39), a sub-frame before the register and stream codec, a frame before the deframer. -/
inductive Port where
  | command | subframe | wire
deriving DecidableEq, Repr, Inhabited

/-- Why bytes are no instruction. -/
inductive Reject where
  | exhausted
  | truncated
  | unknownCode
  | overlong
  | tooWide
  | badMagic
  | missingOperand
  | badTypeTag
  | illFormed
deriving DecidableEq, Repr, Inhabited

end Sys2Proof
end

