-- ==== Sys2Proof/Config.lean ====
section
/-! DEFINITION. The protocol's constants table (00_scope.md R6, 10_state.md R21), the straps at
construction, and the one free choice the model reads: the schedule. -/

namespace Sys2Proof

/-- One step of one agent (00_scope.md R16): what the schedule (10_state.md R21) names. -/
inductive Stimulus where
  /-- requester `r` presents a command on its command port (10_state.md R39) -/
  | command (r : Nat) (bytes : Bytes)
  /-- the sub-frame codec is given one sub-frame on behalf of `r` (the model's own port, log 6) -/
  | subframe (r : Nat) (bytes : Bytes)
  /-- the environment delivers these bytes, the RX engine following byte by byte (log 7) -/
  | frame (bytes : Bytes)
  /-- the arbiter grants the token to the waiter `r` (43_link_manager.md R190 step 2) -/
  | grant (r : Nat)
  /-- the block runs the next primitive step of the exchange of `r` (47_exchange.md) -/
  | exchange (r : Nat)
  /-- the TX engine's step (43_link_manager.md R195) -/
  | txWrite
  /-- the RX engine's byte step (43_link_manager.md R201) -/
  | rxByte
  /-- the transport delivers a byte (10_state.md R40) -/
  | rxArrive (b : Byte)
  /-- the transport confirms the flush (43_link_manager.md R196) -/
  | txFlushed
  /-- 60_exceptions.md R352 -/
  | timeout (r : Nat)
  /-- 60_exceptions.md R353 -/
  | cancel (r : Nat)
  /-- 70_reset_and_hazards.md R380 -/
  | reset
deriving DecidableEq, Repr, Inhabited

namespace Config

/-- MAGIC (00_scope.md R6). -/
abbrev magic : BitVec 16 := 0xAB54

/-- CRC_INIT (00_scope.md R6). -/
abbrev crcInit : BitVec 16 := 0xFFFF

/-- CRC_POLY (00_scope.md R6; from general knowledge, 93_implementation_defined.md G1). -/
abbrev crcPoly : BitVec 16 := 0x1021

/-- VU_MAX_BYTES (00_scope.md R6). -/
abbrev vuMaxBytes : Nat := 5

/-- LEN_MAX (00_scope.md R6). -/
abbrev lenMax : Nat := 255

/-- STREAM_CHUNK_MAX (00_scope.md R6). -/
abbrev streamChunkMax : Nat := 100

/-- SOURCE_ID at construction: any value (93_implementation_defined.md U6; log 3). -/
opaque sourceId : Id7

/-- CRC_ENFORCE at construction: any value (93_implementation_defined.md U1; log 3). -/
opaque crcEnforce : Bool

/-- RESYNC_WINDOW at construction: any value (93_implementation_defined.md U2; log 3). -/
opaque resyncWindow : Nat

/-- N_REQ - 1: any value (93_implementation_defined.md U4; log 3). -/
opaque moreRequesters : Nat

/-- DEST_ID[r] at construction: any value (93_implementation_defined.md U6; log 3). -/
opaque destId : Nat → Id7

/-- CHANNEL[r] at construction: any value (93_implementation_defined.md U6; log 3). -/
opaque channel : Nat → U32

/-- The schedule where State lists no stimulus: any agent, any byte, any time, any waiter
(00_scope.md R16; 92_eei_decisions.md D26; 93_implementation_defined.md U3, U26, U27; log 1). -/
opaque schedule : Nat → Stimulus

end Config

end Sys2Proof
end

