-- ==== Sys2Proof/Syntax.lean ====
section
/-! DEFINITION. The instructions of the block: one constructor for each row of
spec/opcode_table.json (the frame, 28 sub-frames, 22 host commands), with the operands the rows give.
A host command's requester is the port it stands on (10_state.md R39), not an operand. -/

namespace Sys2Proof

/-- One constructor per row of the opcode table, in the table's order. -/
inductive Instr where
  /-- 30_encoding.md R90: raw source and destination bytes, payload, CRC field as received. -/
  | frame (src dst : Byte) (payload : Bytes) (crc : BitVec 16)
  /-- 44_register_encoder.md R240. -/
  | writeSingleInt8 (reg : U32) (b : BitVec 8)
  /-- 44_register_encoder.md R241. -/
  | writeSingleInt16 (reg : U32) (b : BitVec 16)
  /-- 44_register_encoder.md R242. -/
  | writeSingleInt32 (reg : U32) (b : BitVec 32)
  /-- 44_register_encoder.md R243. -/
  | writeSingleFloat (reg : U32) (b : BitVec 32)
  /-- 44_register_encoder.md R244. -/
  | writeMultipleInt8 (start : U32) (vals : List (BitVec 8))
  /-- 44_register_encoder.md R245. -/
  | writeMultipleInt16 (start : U32) (vals : List (BitVec 16))
  /-- 44_register_encoder.md R246. -/
  | writeMultipleInt32 (start : U32) (vals : List (BitVec 32))
  /-- 44_register_encoder.md R247. -/
  | writeMultipleFloat (start : U32) (vals : List (BitVec 32))
  /-- 44_register_encoder.md R232. -/
  | readSingleInt8 (reg : U32)
  /-- 44_register_encoder.md R233. -/
  | readSingleInt16 (reg : U32)
  /-- 44_register_encoder.md R234. -/
  | readSingleInt32 (reg : U32)
  /-- 44_register_encoder.md R235. -/
  | readSingleFloat (reg : U32)
  /-- 44_register_encoder.md R236. -/
  | readMultipleInt8 (reg count : U32)
  /-- 44_register_encoder.md R237. -/
  | readMultipleInt16 (reg count : U32)
  /-- 44_register_encoder.md R238. -/
  | readMultipleInt32 (reg count : U32)
  /-- 44_register_encoder.md R239. -/
  | readMultipleFloat (reg count : U32)
  /-- 45_register_reply_decoder.md R270. -/
  | replySingleInt8 (reg : VuValue) (b : BitVec 8)
  /-- 45_register_reply_decoder.md R271. -/
  | replySingleInt16 (reg : VuValue) (b : BitVec 16)
  /-- 45_register_reply_decoder.md R272. -/
  | replySingleInt32 (reg : VuValue) (b : BitVec 32)
  /-- 45_register_reply_decoder.md R273. -/
  | replySingleFloat (reg : VuValue) (b : BitVec 32)
  /-- 45_register_reply_decoder.md R274; `vals` are the values read whole, fewer than `count`
  exactly when the payload ran out (R278). -/
  | replyMultipleInt8 (start count : VuValue) (vals : List (BitVec 8))
  /-- 45_register_reply_decoder.md R275. -/
  | replyMultipleInt16 (start count : VuValue) (vals : List (BitVec 16))
  /-- 45_register_reply_decoder.md R276. -/
  | replyMultipleInt32 (start count : VuValue) (vals : List (BitVec 32))
  /-- 45_register_reply_decoder.md R277. -/
  | replyMultipleFloat (start count : VuValue) (vals : List (BitVec 32))
  /-- 45_register_reply_decoder.md R280. -/
  | writeError (reg code : VuValue)
  /-- 45_register_reply_decoder.md R281. -/
  | readError (reg code : VuValue)
  /-- 46_stream_subframes.md R300. -/
  | streamC2s (channel : U32) (data : Bytes)
  /-- 46_stream_subframes.md R302. -/
  | streamS2c (channel : VuValue) (data : Bytes)
  /-- 40_varuint.md R131. -/
  | vuEnc (value : U32)
  /-- 40_varuint.md R134. -/
  | vuDec (src : Bytes)
  /-- 41_crc16.md R150. -/
  | crc16 (data : Bytes)
  /-- 42_frame_codec.md R166. -/
  | frameEnc (srcId : Id7) (rr : Bool) (dstId : Id7) (payload : Bytes)
  /-- 42_frame_codec.md R170. -/
  | frameDec (data : Bytes)
  /-- 43_link_manager.md R190. -/
  | lockAcquire
  /-- 43_link_manager.md R191. -/
  | lockRelease
  /-- 43_link_manager.md R193. -/
  | lmWrite (data : Bytes)
  /-- 43_link_manager.md R194. -/
  | lmDrain
  /-- 43_link_manager.md R200. -/
  | lmReadFrame (onlyFrom : Option Id7)
  /-- 44_register_encoder.md R231. -/
  | rqClear
  /-- 44_register_encoder.md R232 to R235. -/
  | rqReadSingle (reg : U32) (ty : TypeTag)
  /-- 44_register_encoder.md R236 to R239. -/
  | rqReadMultiple (reg count : U32) (ty : TypeTag)
  /-- 44_register_encoder.md R240 to R243. -/
  | rqWriteSingle (reg : U32) (value : TV)
  /-- 44_register_encoder.md R244 to R247, R251, R252. -/
  | rqWriteMultiple (start : U32) (values : List TV)
  /-- 45_register_reply_decoder.md R265. -/
  | parseRegisterReply (payload : Bytes)
  /-- 47_exchange.md R318. -/
  | registerQuery
  /-- 47_exchange.md R319. -/
  | registerWrite
  /-- 46_stream_subframes.md R305. -/
  | streamWrite (data : Bytes)
  /-- 47_exchange.md R320. -/
  | streamDrain
  /-- 47_exchange.md R322. -/
  | streamPoll
  /-- 46_stream_subframes.md R306. -/
  | streamTake (size : Nat)
deriving DecidableEq, Repr

end Sys2Proof
end

