-- ==== Sys2Proof/WellFormed.lean ====
section
/-! DEFINITION. Which instructions the operand ranges of the spec admit. The widths of registers, ids,
codes and values are already types; what is left are the lengths of lists. -/

namespace Sys2Proof

/-- The operand checks of each row: a frame's payload has at most 255 bytes (30_encoding.md R94); a count
or length that the block emits fits VU_ENC's 32-bit operand (40_varuint.md R132, 44_register_encoder.md
R248); a REPLY_MULTIPLE holds at most `count` values (45_register_reply_decoder.md R278); a received
length is a 35-bit varuint (40_varuint.md R138); PARSE_REGISTER_REPLY is given a frame's payload
(45_register_reply_decoder.md R265). -/
def Instr.wf : Instr → Bool
  | .frame _ _ payload _ => decide (payload.length ≤ Config.lenMax)
  | .writeSingleInt8 _ _ => true
  | .writeSingleInt16 _ _ => true
  | .writeSingleInt32 _ _ => true
  | .writeSingleFloat _ _ => true
  | .writeMultipleInt8 _ vals => decide (vals.length < 2 ^ 32)
  | .writeMultipleInt16 _ vals => decide (vals.length < 2 ^ 32)
  | .writeMultipleInt32 _ vals => decide (vals.length < 2 ^ 32)
  | .writeMultipleFloat _ vals => decide (vals.length < 2 ^ 32)
  | .readSingleInt8 _ => true
  | .readSingleInt16 _ => true
  | .readSingleInt32 _ => true
  | .readSingleFloat _ => true
  | .readMultipleInt8 _ _ => true
  | .readMultipleInt16 _ _ => true
  | .readMultipleInt32 _ _ => true
  | .readMultipleFloat _ _ => true
  | .replySingleInt8 _ _ => true
  | .replySingleInt16 _ _ => true
  | .replySingleInt32 _ _ => true
  | .replySingleFloat _ _ => true
  | .replyMultipleInt8 _ count vals => decide (vals.length ≤ count.toNat)
  | .replyMultipleInt16 _ count vals => decide (vals.length ≤ count.toNat)
  | .replyMultipleInt32 _ count vals => decide (vals.length ≤ count.toNat)
  | .replyMultipleFloat _ count vals => decide (vals.length ≤ count.toNat)
  | .writeError _ _ => true
  | .readError _ _ => true
  | .streamC2s _ data => decide (data.length < 2 ^ 32)
  | .streamS2c _ data => decide (data.length < 2 ^ 35)
  | .vuEnc _ => true
  | .vuDec _ => true
  | .crc16 _ => true
  | .frameEnc _ _ _ _ => true
  | .frameDec _ => true
  | .lockAcquire => true
  | .lockRelease => true
  | .lmWrite _ => true
  | .lmDrain => true
  | .lmReadFrame _ => true
  | .rqClear => true
  | .rqReadSingle _ _ => true
  | .rqReadMultiple _ _ _ => true
  | .rqWriteSingle _ _ => true
  | .rqWriteMultiple _ values => decide (values.length < 2 ^ 32)
  | .parseRegisterReply payload => decide (payload.length ≤ Config.lenMax)
  | .registerQuery => true
  | .registerWrite => true
  | .streamWrite _ => true
  | .streamDrain => true
  | .streamPoll => true
  | .streamTake _ => true

/-- The port a row's instruction stands on: FRAME before the deframer, sub-frames before the codec,
HOSTCMD rows on a command port. -/
def Instr.port : Instr → Port
  | .frame _ _ _ _ => .wire
  | .writeSingleInt8 _ _ => .subframe
  | .writeSingleInt16 _ _ => .subframe
  | .writeSingleInt32 _ _ => .subframe
  | .writeSingleFloat _ _ => .subframe
  | .writeMultipleInt8 _ _ => .subframe
  | .writeMultipleInt16 _ _ => .subframe
  | .writeMultipleInt32 _ _ => .subframe
  | .writeMultipleFloat _ _ => .subframe
  | .readSingleInt8 _ => .subframe
  | .readSingleInt16 _ => .subframe
  | .readSingleInt32 _ => .subframe
  | .readSingleFloat _ => .subframe
  | .readMultipleInt8 _ _ => .subframe
  | .readMultipleInt16 _ _ => .subframe
  | .readMultipleInt32 _ _ => .subframe
  | .readMultipleFloat _ _ => .subframe
  | .replySingleInt8 _ _ => .subframe
  | .replySingleInt16 _ _ => .subframe
  | .replySingleInt32 _ _ => .subframe
  | .replySingleFloat _ _ => .subframe
  | .replyMultipleInt8 _ _ _ => .subframe
  | .replyMultipleInt16 _ _ _ => .subframe
  | .replyMultipleInt32 _ _ _ => .subframe
  | .replyMultipleFloat _ _ _ => .subframe
  | .writeError _ _ => .subframe
  | .readError _ _ => .subframe
  | .streamC2s _ _ => .subframe
  | .streamS2c _ _ => .subframe
  | .vuEnc _ => .command
  | .vuDec _ => .command
  | .crc16 _ => .command
  | .frameEnc _ _ _ _ => .command
  | .frameDec _ => .command
  | .lockAcquire => .command
  | .lockRelease => .command
  | .lmWrite _ => .command
  | .lmDrain => .command
  | .lmReadFrame _ => .command
  | .rqClear => .command
  | .rqReadSingle _ _ => .command
  | .rqReadMultiple _ _ _ => .command
  | .rqWriteSingle _ _ => .command
  | .rqWriteMultiple _ _ => .command
  | .parseRegisterReply _ => .command
  | .registerQuery => .command
  | .registerWrite => .command
  | .streamWrite _ => .command
  | .streamDrain => .command
  | .streamPoll => .command
  | .streamTake _ => .command

end Sys2Proof
end

