-- ==== Sys2Proof/Decode.lean ====
section
/-! DEFINITION. Byte order, the varuint codec, the decoders of the three ports (the wire's sub-frames and
frames, the requesters' commands) and the encoder (spec/30_encoding.md, spec/40_varuint.md). -/

namespace Sys2Proof

/-! ### Byte order (20_memory.md R60) -/

/-- `le16` of 00_scope.md R10: the first byte is the low byte. -/
def le16 (lo hi : Byte) : BitVec 16 := hi ++ lo

/-- `le32` of 00_scope.md R10. -/
def le32 (b0 b1 b2 b3 : Byte) : BitVec 32 := b3 ++ b2 ++ b1 ++ b0

/-- `bytes_le(v, 2)` of 00_scope.md R10. -/
def bytesLe16 (v : BitVec 16) : Bytes := [v.extractLsb' 0 8, v.extractLsb' 8 8]

/-- `bytes_le(v, 4)` of 00_scope.md R10. -/
def bytesLe32 (v : BitVec 32) : Bytes :=
  [v.extractLsb' 0 8, v.extractLsb' 8 8, v.extractLsb' 16 8, v.extractLsb' 24 8]

/-- `W(t)`, the width of a type in bytes (00_scope.md R14). -/
def TypeTag.width : TypeTag → Nat
  | .int8 => 1
  | .int16 => 2
  | .int32 => 4
  | .float => 4

/-- The type tag's number (00_scope.md R14). -/
def TypeTag.num : TypeTag → BitVec 2
  | .int8 => 0
  | .int16 => 1
  | .int32 => 2
  | .float => 3

/-- The type tag a byte names; used by the model's command port only (log 4). -/
def TypeTag.parse : Nat → Option TypeTag
  | 0 => some .int8
  | 1 => some .int16
  | 2 => some .int32
  | 3 => some .float
  | _ => none

/-- `tag(v)` (00_scope.md R14). -/
def TV.tag : TV → TypeTag
  | .i8 _ => .int8
  | .i16 _ => .int16
  | .i32 _ => .int32
  | .f32 _ => .float

/-- `bits(v)` zero-extended to 32 bits (00_scope.md R14). -/
def TV.pattern : TV → BitVec 32
  | .i8 b => b.setWidth 32
  | .i16 b => b.setWidth 32
  | .i32 b => b
  | .f32 b => b

/-- Fixed-width value emission `enc(v)` (44_register_encoder.md R250). -/
def TV.bytes : TV → Bytes
  | .i8 b => [b]
  | .i16 b => bytesLe16 b
  | .i32 b => bytesLe32 b
  | .f32 b => bytesLe32 b

/-- Assembly of `val(t)` from its `W(t)` bytes (30_encoding.md R101). -/
def TV.ofBytes (t : TypeTag) (bs : Bytes) : TV :=
  match t with
  | .int8 => .i8 (bs.getD 0 0)
  | .int16 => .i16 (le16 (bs.getD 0 0) (bs.getD 1 0))
  | .int32 => .i32 (le32 (bs.getD 0 0) (bs.getD 1 0) (bs.getD 2 0) (bs.getD 3 0))
  | .float => .f32 (le32 (bs.getD 0 0) (bs.getD 1 0) (bs.getD 2 0) (bs.getD 3 0))

/-! ### The varuint (40_varuint.md) -/

/-- The loop of VU_ENC (40_varuint.md R131) on a value of up to 35 bits, at most `n` bytes. -/
def vuEncLoop : Nat → BitVec 35 → Bytes
  | 0, _ => []
  | n + 1, v =>
    if v >>> 7 = 0 then [0#1 ++ v.setWidth 7]
    else (1#1 ++ v.setWidth 7) :: vuEncLoop n (v >>> 7)

/-- The shortest encoding of a value of up to 35 bits (30_encoding.md R97). -/
def vuEnc35 (v : BitVec 35) : Bytes := vuEncLoop Config.vuMaxBytes v

/-- VU_ENC (40_varuint.md R131). -/
def vuEnc (v : U32) : Bytes := vuEnc35 (v.setWidth 35)

/-- The loop of VU_DEC (40_varuint.md R134) from index `i` of `s`, with at most `n` further bytes. -/
def vuDecLoop : Nat → Bytes → Nat → VuRegs → VuResult × VuRegs
  | 0, _, _, r => (.overlong, r)
  | n + 1, s, i, r =>
    match s[i + r.cnt.toNat]? with
    | none => (if r.cnt = 0 then .noData else .truncated, r)
    | some b =>
      let r' : VuRegs :=
        ⟨r.acc ||| (((b.setWidth 7).setWidth 35) <<< r.shift), r.shift + 7, r.cnt + 1⟩
      if b.msb = false then (.value r'.acc r'.cnt.toNat, r')
      else if r'.cnt = 5 then (.overlong, r')
      else vuDecLoop n s i r'

/-- VU_DEC (40_varuint.md R134 to R138), with the scratch registers it leaves. -/
def vuDec (s : Bytes) (i : Nat) : VuResult × VuRegs := vuDecLoop Config.vuMaxBytes s i VuRegs.zero

/-! ### Field readers (45_register_reply_decoder.md R267) -/

/-- A parse of the bytes: `CUR` at 0 (45_register_reply_decoder.md R265). -/
def Reader.start (bs : Bytes) : Reader := ⟨bs, 0, VuRegs.zero⟩

/-- What a field reader answers, and the reader after it. -/
abbrev Read (α : Type) := Except Reject α × Reader

/-- One field after another; the first that stops, stops the whole. -/
def Read.bind {α β : Type} (p : Read α) (f : α → Reader → Read β) : Read β :=
  match p with
  | (.ok a, rd) => f a rd
  | (.error e, rd) => (.error e, rd)

/-- `rd_vu()` (45_register_reply_decoder.md R267): NoData and Truncated are alike. -/
def rdVu (rd : Reader) : Read VuValue :=
  match vuDec rd.pay rd.cur with
  | (.value v n, vu) => (.ok v, { rd with cur := rd.cur + n, vu := vu })
  | (.noData, vu) => (.error .truncated, { rd with vu := vu })
  | (.truncated, vu) => (.error .truncated, { rd with vu := vu })
  | (.overlong, vu) => (.error .overlong, { rd with vu := vu })

/-- The discriminator of the parse loop (45_register_reply_decoder.md R265): here NoData is the clean
end of the payload. -/
def rdDisc (rd : Reader) : Read VuValue :=
  match vuDec rd.pay rd.cur with
  | (.value v n, vu) => (.ok v, { rd with cur := rd.cur + n, vu := vu })
  | (.noData, vu) => (.error .exhausted, { rd with vu := vu })
  | (.truncated, vu) => (.error .truncated, { rd with vu := vu })
  | (.overlong, vu) => (.error .overlong, { rd with vu := vu })

/-- A varuint field that must be a 32-bit operand of the encoder (44_register_encoder.md R248; log 27). -/
def rdU32 (rd : Reader) : Read U32 :=
  (rdVu rd).bind fun v rd' =>
    if v.toNat < 2 ^ 32 then (.ok (v.setWidth 32), rd') else (.error .tooWide, rd')

/-- The next `n` bytes, if they are there (45_register_reply_decoder.md R267). -/
def rdBytes (n : Nat) (rd : Reader) : Read Bytes :=
  if rd.cur + n ≤ rd.pay.length then
    (.ok ((rd.pay.drop rd.cur).take n), { rd with cur := rd.cur + n })
  else (.error .truncated, rd)

/-- `rd_val(t)` (45_register_reply_decoder.md R267). -/
def rdVal (t : TypeTag) (rd : Reader) : Read TV :=
  (rdBytes t.width rd).bind fun bs rd' => (.ok (TV.ofBytes t bs), rd')

/-- The values of a multiple sub-frame that are there whole, at most `count` of them
(45_register_reply_decoder.md R278); `n` bounds the recursion. -/
def rdVals (t : TypeTag) : Nat → Nat → Reader → List TV × Reader
  | 0, _, rd => ([], rd)
  | _ + 1, 0, rd => ([], rd)
  | n + 1, count + 1, rd =>
    match rdVal t rd with
    | (.ok v, rd') =>
      let rest := rdVals t n count rd'
      (v :: rest.1, rest.2)
    | (.error _, rd') => ([], rd')

/-! ### The sub-frame code table (30_encoding.md R100, R103) -/

/-- The family of a sub-frame code. -/
inductive SubKind where
  | writeSingle (t : TypeTag)
  | writeMultiple (t : TypeTag)
  | readSingle (t : TypeTag)
  | readMultiple (t : TypeTag)
  | replySingle (t : TypeTag)
  | replyMultiple (t : TypeTag)
  | writeError
  | readError
  | streamC2s
  | streamS2c
deriving DecidableEq, Repr

/-- The discriminator byte: base + type tag (30_encoding.md R100). -/
def SubKind.code : SubKind → Byte
  | .writeSingle t => 0x10 + t.num.setWidth 8
  | .writeMultiple t => 0x14 + t.num.setWidth 8
  | .readSingle t => 0x18 + t.num.setWidth 8
  | .readMultiple t => 0x1C + t.num.setWidth 8
  | .replySingle t => 0x20 + t.num.setWidth 8
  | .replyMultiple t => 0x24 + t.num.setWidth 8
  | .writeError => 0x28
  | .readError => 0x29
  | .streamC2s => 0x40
  | .streamS2c => 0x41

/-- The sub-frame a discriminator value selects (30_encoding.md R103, R104). -/
def SubKind.ofCode : Nat → Option SubKind
  | 0x10 => some (.writeSingle .int8)
  | 0x11 => some (.writeSingle .int16)
  | 0x12 => some (.writeSingle .int32)
  | 0x13 => some (.writeSingle .float)
  | 0x14 => some (.writeMultiple .int8)
  | 0x15 => some (.writeMultiple .int16)
  | 0x16 => some (.writeMultiple .int32)
  | 0x17 => some (.writeMultiple .float)
  | 0x18 => some (.readSingle .int8)
  | 0x19 => some (.readSingle .int16)
  | 0x1A => some (.readSingle .int32)
  | 0x1B => some (.readSingle .float)
  | 0x1C => some (.readMultiple .int8)
  | 0x1D => some (.readMultiple .int16)
  | 0x1E => some (.readMultiple .int32)
  | 0x1F => some (.readMultiple .float)
  | 0x20 => some (.replySingle .int8)
  | 0x21 => some (.replySingle .int16)
  | 0x22 => some (.replySingle .int32)
  | 0x23 => some (.replySingle .float)
  | 0x24 => some (.replyMultiple .int8)
  | 0x25 => some (.replyMultiple .int16)
  | 0x26 => some (.replyMultiple .int32)
  | 0x27 => some (.replyMultiple .float)
  | 0x28 => some .writeError
  | 0x29 => some .readError
  | 0x40 => some .streamC2s
  | 0x41 => some .streamS2c
  | _ => none

/-- The codes the register reply decoder handles, 0x20 to 0x29 (45_register_reply_decoder.md R282). -/
def SubKind.isReply : SubKind → Bool
  | .replySingle _ => true
  | .replyMultiple _ => true
  | .writeError => true
  | .readError => true
  | .writeSingle _ => false
  | .writeMultiple _ => false
  | .readSingle _ => false
  | .readMultiple _ => false
  | .streamC2s => false
  | .streamS2c => false

/-! ### Sub-frames -/

/-- READ_SINGLE of a type (44_register_encoder.md section 3). -/
def Instr.readSingle (t : TypeTag) (reg : U32) : Instr :=
  match t with
  | .int8 => .readSingleInt8 reg
  | .int16 => .readSingleInt16 reg
  | .int32 => .readSingleInt32 reg
  | .float => .readSingleFloat reg

/-- READ_MULTIPLE of a type (44_register_encoder.md section 4). -/
def Instr.readMultiple (t : TypeTag) (reg count : U32) : Instr :=
  match t with
  | .int8 => .readMultipleInt8 reg count
  | .int16 => .readMultipleInt16 reg count
  | .int32 => .readMultipleInt32 reg count
  | .float => .readMultipleFloat reg count

/-- WRITE_SINGLE of a typed value (44_register_encoder.md section 5). -/
def Instr.writeSingle (reg : U32) (v : TV) : Instr :=
  match v with
  | .i8 b => .writeSingleInt8 reg b
  | .i16 b => .writeSingleInt16 reg b
  | .i32 b => .writeSingleInt32 reg b
  | .f32 b => .writeSingleFloat reg b

/-- WRITE_MULTIPLE of values of one type (44_register_encoder.md section 6). -/
def Instr.writeMultiple (t : TypeTag) (start : U32) (vals : List TV) : Instr :=
  match t with
  | .int8 => .writeMultipleInt8 start (vals.map fun v => v.pattern.setWidth 8)
  | .int16 => .writeMultipleInt16 start (vals.map fun v => v.pattern.setWidth 16)
  | .int32 => .writeMultipleInt32 start (vals.map TV.pattern)
  | .float => .writeMultipleFloat start (vals.map TV.pattern)

/-- REPLY_SINGLE of a typed value (45_register_reply_decoder.md section 2). -/
def Instr.replySingle (reg : VuValue) (v : TV) : Instr :=
  match v with
  | .i8 b => .replySingleInt8 reg b
  | .i16 b => .replySingleInt16 reg b
  | .i32 b => .replySingleInt32 reg b
  | .f32 b => .replySingleFloat reg b

/-- REPLY_MULTIPLE of values of one type (45_register_reply_decoder.md section 3). -/
def Instr.replyMultiple (t : TypeTag) (start count : VuValue) (vals : List TV) : Instr :=
  match t with
  | .int8 => .replyMultipleInt8 start count (vals.map fun v => v.pattern.setWidth 8)
  | .int16 => .replyMultipleInt16 start count (vals.map fun v => v.pattern.setWidth 16)
  | .int32 => .replyMultipleInt32 start count (vals.map TV.pattern)
  | .float => .replyMultipleFloat start count (vals.map TV.pattern)

/-- The fields after a discriminator (30_encoding.md R99, R107). A REPLY_MULTIPLE that the payload cuts
short is still read, with the values that are there (45_register_reply_decoder.md R278); every other
sub-frame cut short is `truncated`. -/
def decodeFields (k : SubKind) (rd : Reader) : Read Instr :=
  match k with
  | .writeSingle t =>
    (rdU32 rd).bind fun reg rd => (rdVal t rd).bind fun v rd => (.ok (.writeSingle reg v), rd)
  | .writeMultiple t =>
    (rdU32 rd).bind fun start rd => (rdU32 rd).bind fun count rd =>
      let r := rdVals t rd.pay.length count.toNat rd
      if r.1.length = count.toNat then (.ok (.writeMultiple t start r.1), r.2)
      else (.error .truncated, r.2)
  | .readSingle t => (rdU32 rd).bind fun reg rd => (.ok (.readSingle t reg), rd)
  | .readMultiple t =>
    (rdU32 rd).bind fun reg rd => (rdU32 rd).bind fun count rd =>
      (.ok (.readMultiple t reg count), rd)
  | .replySingle t =>
    (rdVu rd).bind fun reg rd => (rdVal t rd).bind fun v rd => (.ok (.replySingle reg v), rd)
  | .replyMultiple t =>
    (rdVu rd).bind fun start rd => (rdVu rd).bind fun count rd =>
      let r := rdVals t rd.pay.length count.toNat rd
      (.ok (.replyMultiple t start count r.1), r.2)
  | .writeError =>
    (rdVu rd).bind fun reg rd => (rdVu rd).bind fun code rd => (.ok (.writeError reg code), rd)
  | .readError =>
    (rdVu rd).bind fun reg rd => (rdVu rd).bind fun code rd => (.ok (.readError reg code), rd)
  | .streamC2s =>
    (rdU32 rd).bind fun channel rd => (rdU32 rd).bind fun len rd =>
      (rdBytes len.toNat rd).bind fun data rd => (.ok (.streamC2s channel data), rd)
  | .streamS2c =>
    (rdVu rd).bind fun channel rd => (rdVu rd).bind fun len rd =>
      (rdBytes len.toNat rd).bind fun data rd => (.ok (.streamS2c channel data), rd)

/-- One sub-frame at the cursor: a discriminator, compared by value (30_encoding.md R98), then the
fields of its format. -/
def decodeSub (rd : Reader) : Read Instr :=
  (rdDisc rd).bind fun id rd =>
    match SubKind.ofCode id.toNat with
    | some k => decodeFields k rd
    | none => (.error .unknownCode, rd)

/-! ### Frames -/

/-- A whole frame (30_encoding.md R90): both magic bytes, the raw length byte, the CRC field as it
stands (it is judged by the deframer, not here). Bytes after the frame are not looked at. -/
def decodeFrame (bs : Bytes) : Except Reject Instr :=
  match bs with
  | m0 :: m1 :: src :: dst :: len :: rest =>
    if le16 m0 m1 = Config.magic then
      if len.toNat + 2 ≤ rest.length then
        .ok (.frame src dst (rest.take len.toNat)
          (le16 (rest.getD len.toNat 0) (rest.getD (len.toNat + 1) 0)))
      else .error .truncated
    else .error .badMagic
  | _ => .error .truncated

/-! ### Host commands (labels of 30_encoding.md R120; operand layout: log 4) -/

/-- A little-endian 32-bit operand. -/
def takeU32 : Bytes → Option (U32 × Bytes)
  | b0 :: b1 :: b2 :: b3 :: rest => some (le32 b0 b1 b2 b3, rest)
  | _ => none

/-- One typed value: its tag byte, then its bytes. -/
def takeTV : Bytes → Option (TV × Bytes)
  | [] => none
  | t :: rest =>
    match TypeTag.parse t.toNat with
    | none => none
    | some tag =>
      if tag.width ≤ rest.length then some (TV.ofBytes tag (rest.take tag.width), rest.drop tag.width)
      else none

/-- Typed values to the end of the bytes; `n` bounds the recursion. -/
def takeTVs : Nat → Bytes → Option (List TV)
  | _, [] => some []
  | 0, _ :: _ => none
  | n + 1, b :: bs =>
    match takeTV (b :: bs) with
    | none => none
    | some (v, rest) =>
      match takeTVs n rest with
      | none => none
      | some vs => some (v :: vs)

/-- The natural number of little-endian bytes. -/
def natOfBytes : Bytes → Nat
  | [] => 0
  | b :: bs => b.toNat + 256 * natOfBytes bs

/-- The little-endian bytes of a natural number; `n` bounds the recursion. -/
def bytesOfNat : Nat → Nat → Bytes
  | 0, _ => []
  | n + 1, v => if v = 0 then [] else BitVec.ofNat 8 v :: bytesOfNat n (v / 256)

/-- Only a well-formed instruction is read. -/
def checked (i : Instr) : Except Reject Instr := if i.wf then .ok i else .error .illFormed

/-- A command on a command port: its label, then its operands. Bytes after fixed operands are not
looked at; a byte-sequence operand is all the rest. -/
def decodeCommand (bs : Bytes) : Except Reject Instr :=
  match bs with
  | [] => .error .missingOperand
  | code :: ops =>
    match code.toNat with
    | 0x01 =>
      match takeU32 ops with
      | some (v, _) => .ok (.vuEnc v)
      | none => .error .missingOperand
    | 0x02 => .ok (.vuDec ops)
    | 0x03 => .ok (.crc16 ops)
    | 0x04 =>
      match ops with
      | src :: dst :: payload => .ok (.frameEnc (src.setWidth 7) src.msb (dst.setWidth 7) payload)
      | _ => .error .missingOperand
    | 0x05 => .ok (.frameDec ops)
    | 0x10 => .ok .lockAcquire
    | 0x11 => .ok .lockRelease
    | 0x12 => .ok (.lmWrite ops)
    | 0x13 => .ok .lmDrain
    | 0x14 =>
      match ops with
      | f :: _ => .ok (.lmReadFrame (if f.msb then some (f.setWidth 7) else none))
      | [] => .error .missingOperand
    | 0x20 => .ok .rqClear
    | 0x21 =>
      match takeU32 ops with
      | some (reg, t :: _) =>
        match TypeTag.parse t.toNat with
        | some ty => .ok (.rqReadSingle reg ty)
        | none => .error .badTypeTag
      | _ => .error .missingOperand
    | 0x22 =>
      match takeU32 ops with
      | some (reg, ops') =>
        match takeU32 ops' with
        | some (count, t :: _) =>
          match TypeTag.parse t.toNat with
          | some ty => .ok (.rqReadMultiple reg count ty)
          | none => .error .badTypeTag
        | _ => .error .missingOperand
      | none => .error .missingOperand
    | 0x23 =>
      match takeU32 ops with
      | some (reg, ops') =>
        match takeTV ops' with
        | some (v, _) => .ok (.rqWriteSingle reg v)
        | none => .error .badTypeTag
      | none => .error .missingOperand
    | 0x24 =>
      match takeU32 ops with
      | some (start, ops') =>
        match takeTVs ops'.length ops' with
        | some vs => checked (.rqWriteMultiple start vs)
        | none => .error .badTypeTag
      | none => .error .missingOperand
    | 0x28 => checked (.parseRegisterReply ops)
    | 0x30 => .ok .registerQuery
    | 0x31 => .ok .registerWrite
    | 0x38 => .ok (.streamWrite ops)
    | 0x39 => .ok .streamDrain
    | 0x3A => .ok .streamPoll
    | 0x3B => .ok (.streamTake (natOfBytes ops))
    | _ => .error .unknownCode

/-- The decoder of a port. -/
def decode (p : Port) (bs : Bytes) : Except Reject Instr :=
  match p with
  | .command => decodeCommand bs
  | .subframe => (decodeSub (Reader.start bs)).1
  | .wire => decodeFrame bs

/-! ### The encoder -/

/-- A typed value on the command port: its tag byte, then its bytes (log 4). -/
def TV.tagged (v : TV) : Bytes := v.tag.num.setWidth 8 :: v.bytes

/-- A varuint that counts list elements. -/
def vuCount (n : Nat) : Bytes := vuEnc35 (BitVec.ofNat 35 n)

/-- The bytes of an instruction: a frame by 30_encoding.md R90, a sub-frame by R99 with every varuint in
its shortest form (R102), a host command by the model's own layout (log 4). -/
def encode : Instr → Bytes
  | .frame src dst payload crc =>
    [0x54, 0xAB, src, dst, BitVec.ofNat 8 payload.length] ++ payload ++ bytesLe16 crc
  | .writeSingleInt8 reg b => 0x10 :: (vuEnc reg ++ [b])
  | .writeSingleInt16 reg b => 0x11 :: (vuEnc reg ++ bytesLe16 b)
  | .writeSingleInt32 reg b => 0x12 :: (vuEnc reg ++ bytesLe32 b)
  | .writeSingleFloat reg b => 0x13 :: (vuEnc reg ++ bytesLe32 b)
  | .writeMultipleInt8 start vals => 0x14 :: (vuEnc start ++ vuCount vals.length ++ vals)
  | .writeMultipleInt16 start vals =>
    0x15 :: (vuEnc start ++ vuCount vals.length ++ vals.flatMap bytesLe16)
  | .writeMultipleInt32 start vals =>
    0x16 :: (vuEnc start ++ vuCount vals.length ++ vals.flatMap bytesLe32)
  | .writeMultipleFloat start vals =>
    0x17 :: (vuEnc start ++ vuCount vals.length ++ vals.flatMap bytesLe32)
  | .readSingleInt8 reg => 0x18 :: vuEnc reg
  | .readSingleInt16 reg => 0x19 :: vuEnc reg
  | .readSingleInt32 reg => 0x1A :: vuEnc reg
  | .readSingleFloat reg => 0x1B :: vuEnc reg
  | .readMultipleInt8 reg count => 0x1C :: (vuEnc reg ++ vuEnc count)
  | .readMultipleInt16 reg count => 0x1D :: (vuEnc reg ++ vuEnc count)
  | .readMultipleInt32 reg count => 0x1E :: (vuEnc reg ++ vuEnc count)
  | .readMultipleFloat reg count => 0x1F :: (vuEnc reg ++ vuEnc count)
  | .replySingleInt8 reg b => 0x20 :: (vuEnc35 reg ++ [b])
  | .replySingleInt16 reg b => 0x21 :: (vuEnc35 reg ++ bytesLe16 b)
  | .replySingleInt32 reg b => 0x22 :: (vuEnc35 reg ++ bytesLe32 b)
  | .replySingleFloat reg b => 0x23 :: (vuEnc35 reg ++ bytesLe32 b)
  | .replyMultipleInt8 start count vals => 0x24 :: (vuEnc35 start ++ vuEnc35 count ++ vals)
  | .replyMultipleInt16 start count vals =>
    0x25 :: (vuEnc35 start ++ vuEnc35 count ++ vals.flatMap bytesLe16)
  | .replyMultipleInt32 start count vals =>
    0x26 :: (vuEnc35 start ++ vuEnc35 count ++ vals.flatMap bytesLe32)
  | .replyMultipleFloat start count vals =>
    0x27 :: (vuEnc35 start ++ vuEnc35 count ++ vals.flatMap bytesLe32)
  | .writeError reg code => 0x28 :: (vuEnc35 reg ++ vuEnc35 code)
  | .readError reg code => 0x29 :: (vuEnc35 reg ++ vuEnc35 code)
  | .streamC2s channel data => 0x40 :: (vuEnc channel ++ vuCount data.length ++ data)
  | .streamS2c channel data => 0x41 :: (vuEnc35 channel ++ vuCount data.length ++ data)
  | .vuEnc value => 0x01 :: bytesLe32 value
  | .vuDec src => 0x02 :: src
  | .crc16 data => 0x03 :: data
  | .frameEnc srcId rr dstId payload =>
    0x04 :: (BitVec.ofBool rr ++ srcId) :: (0#1 ++ dstId) :: payload
  | .frameDec data => 0x05 :: data
  | .lockAcquire => [0x10]
  | .lockRelease => [0x11]
  | .lmWrite data => 0x12 :: data
  | .lmDrain => [0x13]
  | .lmReadFrame none => [0x14, 0x00]
  | .lmReadFrame (some f) => [0x14, 1#1 ++ f]
  | .rqClear => [0x20]
  | .rqReadSingle reg ty => 0x21 :: (bytesLe32 reg ++ [ty.num.setWidth 8])
  | .rqReadMultiple reg count ty => 0x22 :: (bytesLe32 reg ++ bytesLe32 count ++ [ty.num.setWidth 8])
  | .rqWriteSingle reg value => 0x23 :: (bytesLe32 reg ++ value.tagged)
  | .rqWriteMultiple start values => 0x24 :: (bytesLe32 start ++ values.flatMap TV.tagged)
  | .parseRegisterReply payload => 0x28 :: payload
  | .registerQuery => [0x30]
  | .registerWrite => [0x31]
  | .streamWrite data => 0x38 :: data
  | .streamDrain => [0x39]
  | .streamPoll => [0x3A]
  | .streamTake size => 0x3B :: bytesOfNat size size

/-! ### The opcode table's words -/

/-- The bytes of a table word: its bits in byte order (the wire's first byte is the least significant),
then zero operand bytes (log 5). -/
def tableBytes (nbits w : Nat) : Bytes :=
  ((List.range (nbits / 8)).map fun k => BitVec.ofNat 8 (w / 256 ^ k)) ++ List.replicate 12 0

/-- The port whose decoder reads a table word: bytes that begin with the magic are a frame, a first byte
that is a sub-frame code is a sub-frame, any other is a command's label (log 5). -/
def tablePort (bs : Bytes) : Port :=
  if bs.take 2 = [0x54, 0xAB] then .wire
  else
    match SubKind.ofCode (bs.getD 0 0).toNat with
    | some _ => .subframe
    | none => .command

/-- The instruction the decoder reads from a word of the opcode table. -/
def decodeTableWord (nbits w : Nat) : Option Instr :=
  let bs := tableBytes nbits w
  match decode (tablePort bs) bs with
  | .ok i => some i
  | .error _ => none

end Sys2Proof
end

