-- ==== Sys2Proof/Machine/State.lean ====
section
/-! DEFINITION. The state of the block (spec/10_state.md), its results and event outputs, and the state
after reset (spec/70_reset_and_hazards.md R381). -/

namespace Sys2Proof.Machine

open Sys2Proof

/-- The receive FSM state RXS (10_state.md R27). -/
inductive RxState where
  | idle | hdr | len | body
deriving DecidableEq, Repr, Inhabited

/-- The exchange state EXS (10_state.md R28, 47_exchange.md R316). -/
inductive ExState where
  | idle | token | sent | await | decoded
deriving DecidableEq, Repr, Inhabited

/-- The exchange command latched in EX_OP (10_state.md R38); none has operands. -/
inductive ExOp where
  | registerQuery | registerWrite | streamDrain | streamPoll
deriving DecidableEq, Repr, Inhabited

/-- The drain sequencer DRS (43_link_manager.md R198). -/
inductive DrState where
  | idle | write | flush
deriving DecidableEq, Repr, Inhabited

/-- LOCK (10_state.md R37). -/
inductive Token where
  | free
  | held (r : Nat)
deriving DecidableEq, Repr, Inhabited

/-- The reason a parse stopped, LAST_STOP (45_register_reply_decoder.md R268). -/
inductive StopReason where
  | exhausted | unknownId | truncated
deriving DecidableEq, Repr, Inhabited

/-- The six fatal causes (60_exceptions.md R341). -/
inductive Cause where
  | varuintOverlong | payloadTooLong | noToken | lockMisuse | mixedTypes | emptyWrite
deriving DecidableEq, Repr, Inhabited

/-- A decoded frame (42_frame_codec.md R165) without `used`. -/
structure Frame where
  srcId : Id7
  rr : Bool
  dstId : Id7
  dstB7 : Bool
  payload : Bytes
  crcRx : BitVec 16
  crcOk : Bool
deriving DecidableEq, Repr, Inhabited

/-- Why FRAME_DEC reports a resynchronization fault (42_frame_codec.md R170). -/
inductive ResyncReason where
  | badMagic | badCrc
deriving DecidableEq, Repr, Inhabited

/-- Why REGISTER_QUERY got no reply (47_exchange.md R318). -/
inductive NoReplyWhy where
  | timeout | resyncTimeout | cancelled
deriving DecidableEq, Repr, Inhabited

/-- The reply map REPLY as a list of key and entry (10_state.md R34), keys strictly rising (log 22). -/
abbrev ReplyMap := List (Nat × Entry)

/-- What a command returns on the result port (30_encoding.md R120, 60_exceptions.md R342). -/
inductive Result where
  | bytes (bs : Bytes)
  | value (v : VuValue) (n : Nat)
  | crc (c : BitVec 16)
  | decoded (f : Frame) (used : Nat)
  | resyncFault (why : ResyncReason)
  | incomplete
  | granted
  | done
  | frame (f : Frame)
  | noData
  | truncated
  | resyncTimeout
  | timeout
  | cancelled
  | parsed (m : ReplyMap) (stop : StopReason)
  | reply (m : ReplyMap) (stop : StopReason) (crcOk : Bool)
  | noReply (why : NoReplyWhy)
  | appended (n : Nat)
  | notYet
  | refused
  | fatal (c : Cause)
deriving DecidableEq, Repr, Inhabited

/-- The event outputs (10_state.md R30). -/
inductive Event where
  | resync
  | crcBad
  | parseStop (why : StopReason)
  | fatal (c : Cause)
deriving DecidableEq, Repr, Inhabited

/-- One requester: its straps DEST_ID and CHANNEL (10_state.md R32), its buffers (R36), its exchange
registers (R38), and what the rules imply: `written` (the exchange's frame is in TXBUF, its drain has not
swapped; log 10), `cancelled` (a cancel that takes effect when the drain completes; log 11) and `outcome`
(the result an exchange in EX_DECODED returns when it has released the token; log 19). -/
structure Client where
  destId : Id7
  channel : U32
  reqbuf : Bytes
  wrbuf : Bytes
  rdbuf : Bytes
  exs : ExState
  exOp : Option ExOp
  written : Bool
  cancelled : Bool
  outcome : Option Result
deriving DecidableEq, Repr, Inhabited

/-- The receive FSM and its staging registers (10_state.md R24, R27), and `acc`, the remainder a read has
reached: what CRC_ACC held after the read's last covered byte, kept from the commands that use CRC_ACC
between two byte steps (10_state.md R22; log 12). -/
structure RxEngine where
  state : RxState
  magic : BitVec 16
  src : BitVec 8
  dst : BitVec 8
  len : BitVec 8
  payload : Bytes
  crc : BitVec 16
  acc : BitVec 16
  cnt : BitVec 9
  filter : Option Id7
  owner : Option Nat
deriving DecidableEq, Repr, Inhabited

/-- The block's state. The last five fields are the model's own (logs 1, 2, 9). -/
structure State where
  sourceId : Id7
  crcEnforce : Bool
  resyncWindow : Nat
  clients : List Client
  token : Token
  waiters : List Nat
  txbuf : Bytes
  txflight : Bytes
  wire : Bytes
  drs : DrState
  drOwner : Option Nat
  rxq : Bytes
  rx : RxEngine
  crcAcc : BitVec 16
  vu : VuRegs
  pay : Bytes
  cur : Nat
  reply : ReplyMap
  crcOk : Bool
  fatal : Bool
  cause : BitVec 4
  lastStop : StopReason
  issuer : Nat
  events : List Event
  results : List (Nat × Result)
  inputs : List Stimulus
  tick : Nat
deriving DecidableEq, Repr, Inhabited

/-- Why the machine stops. -/
inductive Fault where
  /-- Raised by every command and sub-frame presented on the port of a requester that does not exist
  (requesters are 0..N_REQ-1, 60_exceptions.md R363; log 16). Safe: the model stops where no hardware
  port is. -/
  | noSuchRequester
deriving DecidableEq, Repr, Inhabited

/-- Why the model has no meaning for an instruction. -/
inductive Refusal where
  /-- Raised by an arm of `exec` whose instruction has no meaning yet. Safe: nothing is claimed of it. -/
  | notModelled (mnemonic : String)
deriving DecidableEq, Repr, Inhabited

/-- A requester right after reset, with its straps (70_reset_and_hazards.md R381). -/
def Client.fresh (destId : Id7) (channel : U32) : Client :=
  { destId := destId, channel := channel, reqbuf := [], wrbuf := [], rdbuf := [],
    exs := .idle, exOp := none, written := false, cancelled := false,
    outcome := none }

/-- The receive engine right after reset (70_reset_and_hazards.md R381). -/
def RxEngine.fresh : RxEngine :=
  { state := .idle, magic := 0, src := 0, dst := 0, len := 0, payload := [], crc := 0,
    acc := Config.crcInit, cnt := 0, filter := none, owner := none }

/-- The block right after reset with given straps: 70_reset_and_hazards.md R381 row by row. -/
def State.initial (sourceId : Id7) (crcEnforce : Bool) (resyncWindow : Nat)
    (straps : List (Id7 × U32)) : State :=
  { sourceId := sourceId, crcEnforce := crcEnforce, resyncWindow := resyncWindow,
    clients := straps.map fun p => Client.fresh p.1 p.2,
    token := .free, waiters := [],
    txbuf := [], txflight := [], wire := [], drs := .idle, drOwner := none,
    rxq := [], rx := RxEngine.fresh,
    crcAcc := Config.crcInit, vu := VuRegs.zero, pay := [], cur := 0, reply := [],
    crcOk := false, fatal := false, cause := 0, lastStop := .exhausted,
    issuer := 0, events := [], results := [], inputs := [], tick := 0 }

/-- The straps of the `N_REQ` requesters at construction (00_scope.md R6; log 3). -/
def constructedStraps : List (Id7 × U32) :=
  (Config.destId 0, Config.channel 0) ::
    (List.range Config.moreRequesters).map fun k => (Config.destId (k + 1), Config.channel (k + 1))

/-- The machine right after reset (70_reset_and_hazards.md R381), its straps at their construction
values. -/
def State.reset : State :=
  State.initial Config.sourceId Config.crcEnforce Config.resyncWindow constructedStraps

end Sys2Proof.Machine
end

