-- ==== Sys2Proof/Machine/Operands.lean ====
section
/-! DEFINITION. What the instructions compute from their operands: the CRC (spec/41_crc16.md), the frame
bytes (42_frame_codec.md R166), the sub-frames the encoder emits (44_register_encoder.md), the entries a
reply sub-frame carries (45_register_reply_decoder.md), the stream sub-frame (46_stream_subframes.md). -/

namespace Sys2Proof.Machine

open Sys2Proof

/-! ### CRC-16 (41_crc16.md) -/

/-- One of the eight shifts of `crc_step` (41_crc16.md R151). -/
def crcShift (c : BitVec 16) : BitVec 16 := if c.msb then (c <<< 1) ^^^ Config.crcPoly else c <<< 1

/-- `crc_step(c, b)` (41_crc16.md R151). -/
def crcStep (c : BitVec 16) (b : Byte) : BitVec 16 :=
  crcShift (crcShift (crcShift (crcShift (crcShift (crcShift (crcShift (crcShift
    (c ^^^ (b ++ 0#8)))))))))

/-- CRC16(data) (41_crc16.md R150). -/
def crc16 (data : Bytes) : BitVec 16 := data.foldl crcStep Config.crcInit

/-! ### The framer (42_frame_codec.md R166) -/

/-- The source byte `{rr, src_id}` (30_encoding.md R91). -/
def srcByte (rr : Bool) (srcId : Id7) : Byte := BitVec.ofBool rr ++ srcId

/-- The destination byte `{0, dst_id}` (30_encoding.md R92, R93). -/
def dstByte (dstId : Id7) : Byte := 0#1 ++ dstId

/-- Header and payload of a frame, the bytes the CRC covers (41_crc16.md R154). -/
def frameBody (srcId : Id7) (rr : Bool) (dstId : Id7) (payload : Bytes) : Bytes :=
  [0x54, 0xAB, srcByte rr srcId, dstByte dstId, BitVec.ofNat 8 payload.length] ++ payload

/-- The whole frame (42_frame_codec.md R166). -/
def frameBytes (srcId : Id7) (rr : Bool) (dstId : Id7) (payload : Bytes) : Bytes :=
  frameBody srcId rr dstId payload ++ bytesLe16 (crc16 (frameBody srcId rr dstId payload))

/-! ### The deframer on a buffer (42_frame_codec.md R170) -/

/-- The answer of FRAME_DEC before CRC_ENFORCE is looked at. -/
inductive Deframed where
  | incomplete
  | badMagic
  | whole (f : Frame) (crc : BitVec 16)
deriving DecidableEq, Repr

/-- FRAME_DEC's reading of the bytes (42_frame_codec.md R170, R171): the magic is judged once four bytes
are there, the CRC is computed once the whole frame is. -/
def deframe (data : Bytes) : Deframed :=
  if data.length < 4 then .incomplete
  else if le16 (data.getD 0 0) (data.getD 1 0) ≠ Config.magic then .badMagic
  else if data.length < 5 then .incomplete
  else
    let n := (data.getD 4 0).toNat
    if data.length < 7 + n then .incomplete
    else
      let c := crc16 (data.take (5 + n))
      let rx := le16 (data.getD (5 + n) 0) (data.getD (6 + n) 0)
      .whole
        { srcId := (data.getD 2 0).setWidth 7, rr := (data.getD 2 0).msb,
          dstId := (data.getD 3 0).setWidth 7, dstB7 := (data.getD 3 0).msb,
          payload := (data.drop 5).take n, crcRx := rx, crcOk := decide (c = rx) } c

/-! ### Request sub-frames (44_register_encoder.md) -/

/-- READ_SINGLE (44_register_encoder.md section 3, R249). -/
def readSingleBytes (t : TypeTag) (reg : U32) : Bytes :=
  (0x18 + t.num.setWidth 8) :: vuEnc reg

/-- READ_MULTIPLE (44_register_encoder.md section 4, R249). -/
def readMultipleBytes (t : TypeTag) (reg count : U32) : Bytes :=
  (0x1C + t.num.setWidth 8) :: (vuEnc reg ++ vuEnc count)

/-- WRITE_SINGLE (44_register_encoder.md section 5, R249, R250). -/
def writeSingleBytes (reg : U32) (v : TV) : Bytes :=
  (0x10 + v.tag.num.setWidth 8) :: (vuEnc reg ++ v.bytes)

/-- WRITE_MULTIPLE of values whose tag is `t` (44_register_encoder.md section 6, R249, R250). -/
def writeMultipleBytes (t : TypeTag) (start : U32) (vals : List TV) : Bytes :=
  (0x14 + t.num.setWidth 8) ::
    (vuEnc start ++ vuEnc (BitVec.ofNat 32 vals.length) ++ vals.flatMap TV.bytes)

/-- The precondition of WRITE_MULTIPLE that the values break, if any (44_register_encoder.md R251, R252):
no value, or tags that differ. -/
def writeMultipleFault (vals : List TV) : Option Cause :=
  match vals with
  | [] => some .emptyWrite
  | v :: vs => if vs.all fun w => decide (w.tag = v.tag) then none else some .mixedTypes

/-- The tag of the first value; WRITE_MULTIPLE has one by R252. -/
def firstTag (vals : List TV) : TypeTag :=
  match vals with
  | [] => .int8
  | v :: _ => v.tag

/-! ### The stream sub-frame (46_stream_subframes.md R300) -/

/-- `c2s(channel, data)` (46_stream_subframes.md R300). -/
def c2s (channel : U32) (data : Bytes) : Bytes :=
  0x40 :: (vuEnc channel ++ vuEnc (BitVec.ofNat 32 data.length) ++ data)

/-! ### Reply sub-frames (45_register_reply_decoder.md) -/

/-- The entries of a REPLY_MULTIPLE: value `i` under key `start + i`, in the natural numbers
(45_register_reply_decoder.md R279). -/
def multipleEntries (start : Nat) : List TV → List (Nat × Entry)
  | [] => []
  | v :: vs => (start, .val v) :: multipleEntries (start + 1) vs

/-- The entries a reply sub-frame puts into REPLY, in order (45_register_reply_decoder.md R270 to R281);
no other instruction has any. -/
def replyEntries : Instr → List (Nat × Entry)
  | .replySingleInt8 reg b => [(reg.toNat, .val (.i8 b))]
  | .replySingleInt16 reg b => [(reg.toNat, .val (.i16 b))]
  | .replySingleInt32 reg b => [(reg.toNat, .val (.i32 b))]
  | .replySingleFloat reg b => [(reg.toNat, .val (.f32 b))]
  | .replyMultipleInt8 start _ vals => multipleEntries start.toNat (vals.map TV.i8)
  | .replyMultipleInt16 start _ vals => multipleEntries start.toNat (vals.map TV.i16)
  | .replyMultipleInt32 start _ vals => multipleEntries start.toNat (vals.map TV.i32)
  | .replyMultipleFloat start _ vals => multipleEntries start.toNat (vals.map TV.f32)
  | .writeError reg code => [(reg.toNat, .err code)]
  | .readError reg code => [(reg.toNat, .err code)]
  | _ => []

/-- A REPLY_MULTIPLE with fewer values than its count was cut short (45_register_reply_decoder.md R278). -/
def replyShort : Instr → Bool
  | .replyMultipleInt8 _ count vals => decide (vals.length < count.toNat)
  | .replyMultipleInt16 _ count vals => decide (vals.length < count.toNat)
  | .replyMultipleInt32 _ count vals => decide (vals.length < count.toNat)
  | .replyMultipleFloat _ count vals => decide (vals.length < count.toNat)
  | _ => false

/-- A sub-frame that a device sends (30_encoding.md R103, direction D>H). -/
def receivedSubframe : Instr → Bool
  | .replySingleInt8 _ _ => true
  | .replySingleInt16 _ _ => true
  | .replySingleInt32 _ _ => true
  | .replySingleFloat _ _ => true
  | .replyMultipleInt8 _ _ _ => true
  | .replyMultipleInt16 _ _ _ => true
  | .replyMultipleInt32 _ _ _ => true
  | .replyMultipleFloat _ _ _ => true
  | .writeError _ _ => true
  | .readError _ _ => true
  | .streamS2c _ _ => true
  | _ => false

/-- The answer of `s2c` (46_stream_subframes.md R302). -/
inductive S2c where
  | accept (channel : VuValue) (data : Bytes)
  | reject
  | overlong
deriving DecidableEq, Repr

/-- `s2c(PAY)` (46_stream_subframes.md R302): three varuints, then the code is judged, then the data. -/
def s2c (rd : Reader) : S2c × Reader :=
  match (rdVu rd).bind fun id rd => (rdVu rd).bind fun channel rd => (rdVu rd).bind fun len rd =>
      (.ok (id, channel, len), rd) with
  | (.ok (id, channel, len), rd') =>
    if id ≠ 0x41 then (.reject, rd')
    else if rd'.pay.length < rd'.cur + len.toNat then (.reject, rd')
    else (.accept channel ((rd'.pay.drop rd'.cur).take len.toNat), rd')
  | (.error .overlong, rd') => (.overlong, rd')
  | (.error _, rd') => (.reject, rd')

end Sys2Proof.Machine
end

