-- ==== Sys2Proof/Machine/Flags.lean ====
section
/-! DEFINITION. The status flags (spec/10_state.md R29): the codes of CAUSE and LAST_STOP and the
comparison that gives CRC_OK. -/

namespace Sys2Proof.Machine

open Sys2Proof

/-- The cause's number (60_exceptions.md R341). -/
def Cause.code : Cause → BitVec 4
  | .varuintOverlong => 1
  | .payloadTooLong => 2
  | .noToken => 3
  | .lockMisuse => 4
  | .mixedTypes => 5
  | .emptyWrite => 6

/-- The stop reason's number (45_register_reply_decoder.md R268). -/
def StopReason.code : StopReason → BitVec 2
  | .exhausted => 0
  | .unknownId => 1
  | .truncated => 2

/-- CRC_OK at the completion of a frame (43_link_manager.md R206 step 1, 41_crc16.md R155). -/
def crcMatches (acc rx : BitVec 16) : Bool := decide (acc = rx)

/-- CAUSE after a fault: the first cause stays (60_exceptions.md R346). -/
def causeAfter (fatal : Bool) (cause : BitVec 4) (c : Cause) : BitVec 4 :=
  if fatal then cause else c.code

/-- The events of a parse that stops: none when the payload is exhausted
(45_register_reply_decoder.md R265). -/
def stopEvents : StopReason → List Event
  | .exhausted => []
  | .unknownId => [.parseStop .unknownId]
  | .truncated => [.parseStop .truncated]

end Sys2Proof.Machine
end

