-- ==== Sys2Proof/Machine/Ops.lean ====
section
/-! DEFINITION. The named operations over the state: results and events, the fatal fault and its only
way out, requesters and the token, the byte spaces, the reply map, the steps that commands share. -/

namespace Sys2Proof.Machine

open Sys2Proof

/-- The outcome of one step or of one instruction. -/
abbrev Out := Host.Outcome State Fault Refusal

/-! ### Result port and event outputs -/

/-- The block returns `res` on the result port of `r` (10_state.md R39; log 9). -/
def State.ret (r : Nat) (res : Result) (s : State) : State :=
  { s with results := s.results ++ [(r, res)] }

/-- Event pulses are recorded in the history (10_state.md R30; log 9). -/
def State.emit (es : List Event) (s : State) : State := { s with events := s.events ++ es }

/-! ### The fatal fault (60_exceptions.md R346) and the way out of it -/

/-- `raise Fatal(c)` by a command of `r` (60_exceptions.md R346): FATAL, CAUSE (first cause only),
`ev_fatal`, result Fatal(c); nothing else is saved or changed. -/
def State.raise (c : Cause) (r : Nat) (s : State) : State :=
  { s with
    fatal := true
    cause := causeAfter s.fatal s.cause c
    events := s.events ++ [.fatal c]
    results := s.results ++ [(r, .fatal c)] }

/-- The reset event (70_reset_and_hazards.md R380): the only thing that clears FATAL and CAUSE. The
straps keep their values, pending commands get no result, every history starts anew. The schedule that
is still to come is no state of the block and stays (log 1). -/
def State.resetEvent (s : State) : State :=
  { State.initial s.sourceId s.crcEnforce s.resyncWindow
      (s.clients.map fun c => (c.destId, c.channel)) with
    inputs := s.inputs
    tick := s.tick }

/-! ### Requesters -/

/-- Change the registers of requester `r`. -/
def State.modClient (r : Nat) (f : Client → Client) (s : State) : State :=
  { s with clients := s.clients.modify r f }

/-- A command of `r` is outstanding (10_state.md R39): it waits for the token, drains, reads, or runs an
exchange. -/
def State.busy (r : Nat) (c : Client) (s : State) : Bool :=
  decide (r ∈ s.waiters) || decide (s.drOwner = some r) || decide (s.rx.owner = some r) ||
    c.exOp.isSome

/-- The requester registers at the end of an exchange or a cancelled command (47_exchange.md R316). -/
def Client.rest (c : Client) : Client :=
  { c with exs := .idle, exOp := none, written := false, cancelled := false, outcome := none }

/-- The frame every command shares. A command on the port of no requester stops the model (log 16); when
FATAL = 1 it is refused, first of all checks (60_exceptions.md R347, R350); so is a second command of a
requester whose first has not returned (93_implementation_defined.md U22; log 17). Otherwise `body` is
what the command does, given the issuer and its registers. -/
def onCommand (s : State) (body : Nat → Client → State) : Out :=
  match s.clients[s.issuer]? with
  | none => .fault .noSuchRequester
  | some c =>
    if s.fatal || s.busy s.issuer c then .next (s.ret s.issuer .refused)
    else .next (body s.issuer c)

/-- `onCommand` would run the command's body. -/
def State.ready (s : State) : Bool :=
  match s.clients[s.issuer]? with
  | none => false
  | some c => !(s.fatal || s.busy s.issuer c)

/-! ### Byte spaces (10_state.md R36) -/

/-- The byte spaces of the block. -/
inductive ByteSpace where
  | txbuf | txflight | wire | rxq | rxPayload | pay
  | reqbuf (r : Nat) | wrbuf (r : Nat) | rdbuf (r : Nat)
deriving DecidableEq, Repr

/-- The bytes a byte space holds; the buffers of a requester that does not exist hold none. -/
def State.space (s : State) : ByteSpace → Bytes
  | .txbuf => s.txbuf
  | .txflight => s.txflight
  | .wire => s.wire
  | .rxq => s.rxq
  | .rxPayload => s.rx.payload
  | .pay => s.pay
  | .reqbuf r => (s.clients[r]?.map Client.reqbuf).getD []
  | .wrbuf r => (s.clients[r]?.map Client.wrbuf).getD []
  | .rdbuf r => (s.clients[r]?.map Client.rdbuf).getD []

/-- `MemRead(SPACE, addr, n)` (00_scope.md R12). -/
def State.memRead (s : State) (sp : ByteSpace) (addr n : Nat) : Bytes :=
  ((s.space sp).drop addr).take n

/-- PAY, CUR and the varuint scratch as a reader leaves them (45_register_reply_decoder.md R265 to R267). -/
def State.fetched (rd : Reader) (s : State) : State :=
  { s with pay := rd.pay, cur := rd.cur, vu := rd.vu }

/-! ### The reply map (10_state.md R34) -/

/-- The canonical form of REPLY: keys strictly rising, so that equal maps are equal lists (log 22). -/
abbrev ReplyMap.wf (m : ReplyMap) : Prop := (m.map Prod.fst).Pairwise (· < ·)

/-- `REPLY[k] <- e` (45_register_reply_decoder.md R269): the last write wins. -/
def ReplyMap.insert (k : Nat) (e : Entry) : ReplyMap → ReplyMap
  | [] => [(k, e)]
  | (k', e') :: m =>
    if k < k' then (k, e) :: (k', e') :: m
    else if k = k' then (k, e) :: m
    else (k', e') :: ReplyMap.insert k e m

/-- The entries of a sub-frame go in one by one (45_register_reply_decoder.md R278). -/
def ReplyMap.insertAll (es : List (Nat × Entry)) (m : ReplyMap) : ReplyMap :=
  es.foldl (fun m p => ReplyMap.insert p.1 p.2 m) m

/-- The entry under a key. -/
def ReplyMap.lookup (k : Nat) : ReplyMap → Option Entry
  | [] => none
  | (k', e) :: m => if k = k' then some e else ReplyMap.lookup k m

/-! ### WAITERS (10_state.md R37), a set as a strictly rising list (log 22) -/

/-- `WAITERS ∪ {r}`. -/
def waitersInsert (r : Nat) : List Nat → List Nat
  | [] => [r]
  | q :: qs => if r < q then r :: q :: qs else if r = q then q :: qs else q :: waitersInsert r qs

/-- `WAITERS \ {r}`. -/
def waitersErase (r : Nat) (ws : List Nat) : List Nat := ws.filter fun q => decide (q ≠ r)

/-! ### Steps that commands share -/

/-- LOCK_ACQUIRE step 1 (43_link_manager.md R190), bare or as the first step of the exchange `op`
(47_exchange.md R315, R317): a requester that already holds the token raises F_LOCK_MISUSE. -/
def State.requestToken (op : Option ExOp) (r : Nat) (s : State) : State :=
  if s.token = .held r then s.raise .lockMisuse r
  else
    { s with waiters := waitersInsert r s.waiters }.modClient r fun c => { c with exOp := op }

/-- LOCK_RELEASE at the end of an exchange, or the release of a cancelled command, and its result
(47_exchange.md R317 and the last step of R318 to R322; 60_exceptions.md R353). -/
def State.endCommand (r : Nat) (res : Result) (s : State) : State :=
  ({ s with token := .free }.modClient r Client.rest).ret r res

/-- Append one sub-frame to REQBUF[r]; result Done (44_register_encoder.md R230). -/
def State.appendRequest (r : Nat) (bs : Bytes) (s : State) : State :=
  (s.modClient r fun c => { c with reqbuf := c.reqbuf ++ bs }).ret r .done

/-- WRITE_MULTIPLE (44_register_encoder.md section 6): the checks of R251 and R252 before anything is
appended; a count that VU_ENC cannot encode is refused (40_varuint.md R132; log 34). -/
def State.appendWriteMultiple (t : TypeTag) (start : U32) (vals : List TV) (r : Nat) (s : State) :
    State :=
  match writeMultipleFault vals with
  | some c => s.raise c r
  | none =>
    if 2 ^ 32 ≤ vals.length then s.ret r .refused
    else s.appendRequest r (writeMultipleBytes t start vals)

/-- FRAME_ENC (42_frame_codec.md R166, R167): no frame for a payload of 256 bytes or more; otherwise its
bytes, CRC_ACC holding their CRC. -/
def State.buildFrame (srcId : Id7) (rr : Bool) (dstId : Id7) (payload : Bytes) (s : State) :
    Option (Bytes × State) :=
  if Config.lenMax < payload.length then none
  else
    some (frameBytes srcId rr dstId payload,
      { s with crcAcc := crc16 (frameBody srcId rr dstId payload) })

/-- LM_DRAIN step 1, the swap (43_link_manager.md R194). -/
def State.startDrain (r : Nat) (s : State) : State :=
  { s with txflight := s.txbuf, txbuf := [], drOwner := some r, drs := .write }

/-- LM_READ_FRAME's acceptance (43_link_manager.md R200). -/
def State.acceptRead (r : Nat) (filter : Option Id7) (s : State) : State :=
  { s with
    rx :=
      { s.rx with
        state := .hdr, owner := some r, filter := filter, cnt := 0, payload := []
        acc := Config.crcInit }
    crcAcc := Config.crcInit }

end Sys2Proof.Machine
end

