-- ==== Sys2Proof/Machine/ReplyDecoder.lean ====
section
/-! DEFINITION. The typed register reply decoder (spec/45_register_reply_decoder.md): the reply
sub-frames 0x20 to 0x29, the parse loop and PARSE_REGISTER_REPLY. -/

namespace Sys2Proof.Machine

open Sys2Proof

/-! ### Stopping, and one reply sub-frame -/

/-- `stop(reason)` (45_register_reply_decoder.md R265, R268): LAST_STOP and the event. -/
def State.stop (why : StopReason) (s : State) : State :=
  { s with lastStop := why }.emit (stopEvents why)

/-- One reply sub-frame run by itself for `r` (log 6): its entries go into REPLY; one cut short also
stops the parse (45_register_reply_decoder.md R278). -/
def State.takeReply (i : Instr) (r : Nat) (s : State) : State :=
  let s' := { s with reply := ReplyMap.insertAll (replyEntries i) s.reply }
  if replyShort i then (s'.stop .truncated).ret r (.parsed s'.reply .truncated) else s'

/-- REPLY_SINGLE_INT8 (45_register_reply_decoder.md R270). -/
def execReplySingleInt8 (reg : VuValue) (b : BitVec 8) (s : State) : Out :=
  onCommand s fun r _ => s.takeReply (.replySingleInt8 reg b) r

/-- REPLY_SINGLE_INT16 (45_register_reply_decoder.md R271). -/
def execReplySingleInt16 (reg : VuValue) (b : BitVec 16) (s : State) : Out :=
  onCommand s fun r _ => s.takeReply (.replySingleInt16 reg b) r

/-- REPLY_SINGLE_INT32 (45_register_reply_decoder.md R272). -/
def execReplySingleInt32 (reg : VuValue) (b : BitVec 32) (s : State) : Out :=
  onCommand s fun r _ => s.takeReply (.replySingleInt32 reg b) r

/-- REPLY_SINGLE_FLOAT (45_register_reply_decoder.md R273). -/
def execReplySingleFloat (reg : VuValue) (b : BitVec 32) (s : State) : Out :=
  onCommand s fun r _ => s.takeReply (.replySingleFloat reg b) r

/-- REPLY_MULTIPLE_INT8 (45_register_reply_decoder.md R274, R278, R279). -/
def execReplyMultipleInt8 (start count : VuValue) (vals : List (BitVec 8)) (s : State) : Out :=
  onCommand s fun r _ => s.takeReply (.replyMultipleInt8 start count vals) r

/-- REPLY_MULTIPLE_INT16 (45_register_reply_decoder.md R275, R278, R279). -/
def execReplyMultipleInt16 (start count : VuValue) (vals : List (BitVec 16)) (s : State) : Out :=
  onCommand s fun r _ => s.takeReply (.replyMultipleInt16 start count vals) r

/-- REPLY_MULTIPLE_INT32 (45_register_reply_decoder.md R276, R278, R279). -/
def execReplyMultipleInt32 (start count : VuValue) (vals : List (BitVec 32)) (s : State) : Out :=
  onCommand s fun r _ => s.takeReply (.replyMultipleInt32 start count vals) r

/-- REPLY_MULTIPLE_FLOAT (45_register_reply_decoder.md R277, R278, R279). -/
def execReplyMultipleFloat (start count : VuValue) (vals : List (BitVec 32)) (s : State) : Out :=
  onCommand s fun r _ => s.takeReply (.replyMultipleFloat start count vals) r

/-- WRITE_ERROR (45_register_reply_decoder.md R280). -/
def execWriteError (reg code : VuValue) (s : State) : Out :=
  onCommand s fun r _ => s.takeReply (.writeError reg code) r

/-- READ_ERROR (45_register_reply_decoder.md R281). -/
def execReadError (reg code : VuValue) (s : State) : Out :=
  onCommand s fun r _ => s.takeReply (.readError reg code) r

/-! ### The parse loop -/

/-- One sub-frame of the parse loop at the cursor (45_register_reply_decoder.md R265, R282): a code other
than 0x20 to 0x29 is unknown whatever follows it. -/
def decodeReply (rd : Reader) : Read Instr :=
  (rdDisc rd).bind fun id rd =>
    match SubKind.ofCode id.toNat with
    | some k => if k.isReply then decodeFields k rd else (.error .unknownCode, rd)
    | none => (.error .unknownCode, rd)

/-- How a parse ends: with a stop reason, or with the fatal overlong varuint
(45_register_reply_decoder.md R284). -/
inductive ParseEnd where
  | stop (why : StopReason)
  | overlong
deriving DecidableEq, Repr

/-- What a sub-frame that cannot be read does to the parse (45_register_reply_decoder.md R265, R267,
R282, R284). -/
def parseEndOf : Reject → ParseEnd
  | .exhausted => .stop .exhausted
  | .unknownCode => .stop .unknownId
  | .overlong => .overlong
  | .truncated => .stop .truncated
  | .tooWide => .stop .truncated
  | .badMagic => .stop .truncated
  | .missingOperand => .stop .truncated
  | .badTypeTag => .stop .truncated
  | .illFormed => .stop .truncated

/-- The loop of 45_register_reply_decoder.md R265, at most `n` sub-frames. -/
def parseLoop : Nat → Reader → ReplyMap → ParseEnd × Reader × ReplyMap
  | 0, rd, m => (.stop .exhausted, rd, m)
  | n + 1, rd, m =>
    match decodeReply rd with
    | (.ok i, rd') =>
      let m' := ReplyMap.insertAll (replyEntries i) m
      if replyShort i then (.stop .truncated, rd', m') else parseLoop n rd' m'
    | (.error e, rd') => (parseEndOf e, rd', m)

/-- The parse of a payload (45_register_reply_decoder.md R265). Every sub-frame takes at least one byte
(R266), so the bound `|payload| + 1` is never reached. -/
def parsePayload (payload : Bytes) : ParseEnd × Reader × ReplyMap :=
  parseLoop (payload.length + 1) (Reader.start payload) []

/-- The registers a parse leaves: REPLY, PAY, CUR, the varuint scratch, and on a stop LAST_STOP and its
event (45_register_reply_decoder.md R265). -/
def State.runParse (payload : Bytes) (s : State) : ParseEnd × State :=
  let p := parsePayload payload
  let s' := { s with pay := payload, cur := p.2.1.cur, vu := p.2.1.vu, reply := p.2.2 }
  match p.1 with
  | .stop why => (.stop why, s'.stop why)
  | .overlong => (.overlong, s')

/-- PARSE_REGISTER_REPLY for `r` (45_register_reply_decoder.md R265, R284). -/
def State.parseFor (payload : Bytes) (r : Nat) (s : State) : State :=
  match s.runParse payload with
  | (.stop why, s') => s'.ret r (.parsed s'.reply why)
  | (.overlong, s') => s'.raise .varuintOverlong r

/-- PARSE_REGISTER_REPLY (45_register_reply_decoder.md R265). -/
def execParseRegisterReply (payload : Bytes) (s : State) : Out :=
  onCommand s fun r _ => s.parseFor payload r

end Sys2Proof.Machine
end

