-- ==== Sys2Proof/Machine/Stream.lean ====
section
/-! DEFINITION. The stream sub-frames and buffers (spec/46_stream_subframes.md). -/

namespace Sys2Proof.Machine

open Sys2Proof

/-- STREAM_C2S (46_stream_subframes.md R300): the encoder's bytes, given back as its result. A length that
VU_ENC cannot encode is refused (40_varuint.md R132; log 34). -/
def execStreamC2s (channel : U32) (data : Bytes) (s : State) : Out :=
  onCommand s fun r _ =>
    if 2 ^ 32 ≤ data.length then s.ret r .refused else s.ret r (.bytes (c2s channel data))

/-- Stream reply acceptance for `r` (46_stream_subframes.md R303): on the client's own channel the data
go to RDBUF[r]. -/
def State.acceptStream (r : Nat) (own : U32) (channel : VuValue) (data : Bytes) (s : State) : State :=
  if channel = own.setWidth 35 then s.modClient r fun c => { c with rdbuf := c.rdbuf ++ data } else s

/-- How many bytes the acceptance appends (47_exchange.md R322). -/
def acceptedCount (own : U32) (channel : VuValue) (data : Bytes) : Nat :=
  if channel = own.setWidth 35 then data.length else 0

/-- STREAM_S2C (46_stream_subframes.md R302, R303). -/
def execStreamS2c (channel : VuValue) (data : Bytes) (s : State) : Out :=
  onCommand s fun r c => s.acceptStream r c.channel channel data

/-- STREAM_WRITE (46_stream_subframes.md R305). -/
def execStreamWrite (data : Bytes) (s : State) : Out :=
  onCommand s fun r _ => (s.modClient r fun c => { c with wrbuf := c.wrbuf ++ data }).ret r .done

/-- STREAM_TAKE (46_stream_subframes.md R306). -/
def execStreamTake (size : Nat) (s : State) : Out :=
  onCommand s fun r c =>
    if c.rdbuf.length < size then s.ret r .notYet
    else
      (s.modClient r fun c => { c with rdbuf := c.rdbuf.drop size }).ret r (.bytes (c.rdbuf.take size))

end Sys2Proof.Machine
end

