-- ==== Sys2Proof/Machine/Exchange.lean ====
section
/-! DEFINITION. The exchanges (spec/47_exchange.md): the four commands and the primitive steps the block
runs on a requester's behalf. -/

namespace Sys2Proof.Machine

open Sys2Proof

/-! ### The commands: acceptance, up to the request for the token -/

/-- Step 0 of REGISTER_QUERY and REGISTER_WRITE (47_exchange.md R318), then the request for the token. -/
def State.requestRegisterExchange (op : ExOp) (r : Nat) (c : Client) (s : State) : State :=
  if Config.lenMax < c.reqbuf.length then s.raise .payloadTooLong r else s.requestToken (some op) r

/-- REGISTER_QUERY (47_exchange.md R318). -/
def execRegisterQuery (s : State) : Out :=
  onCommand s fun r c => s.requestRegisterExchange .registerQuery r c

/-- REGISTER_WRITE (47_exchange.md R319). -/
def execRegisterWrite (s : State) : Out :=
  onCommand s fun r c => s.requestRegisterExchange .registerWrite r c

/-- STREAM_DRAIN (47_exchange.md R320): with nothing buffered, Done at once. -/
def execStreamDrain (s : State) : Out :=
  onCommand s fun r c =>
    if c.wrbuf = [] then s.ret r .done else s.requestToken (some .streamDrain) r

/-- STREAM_POLL (47_exchange.md R322). -/
def execStreamPoll (s : State) : Out :=
  onCommand s fun r _ => s.requestToken (some .streamPoll) r

/-! ### Step 2: the frame -/

/-- The exchanges that wait for a reply (47_exchange.md R316). -/
def ExOp.hasReply : ExOp → Bool
  | .registerQuery => true
  | .registerWrite => false
  | .streamDrain => false
  | .streamPoll => true

/-- The response-requested bit of the exchange's frame (47_exchange.md R318 to R322). -/
def ExOp.rr : ExOp → Bool
  | .registerQuery => true
  | .registerWrite => false
  | .streamDrain => false
  | .streamPoll => true

/-- The payload of the exchange's frame (47_exchange.md R318 to R322). -/
def exchangePayload (op : ExOp) (c : Client) : Bytes :=
  match op with
  | .registerQuery => c.reqbuf
  | .registerWrite => c.reqbuf
  | .streamDrain => c2s c.channel (c.wrbuf.take Config.streamChunkMax)
  | .streamPoll => c2s c.channel []

/-- The requester's buffers once the frame is built: the request is used up, the chunk is taken
(47_exchange.md R318 to R322). -/
def Client.afterFrame (op : ExOp) (c : Client) : Client :=
  match op with
  | .registerQuery => { c with reqbuf := [], written := true }
  | .registerWrite => { c with reqbuf := [], written := true }
  | .streamDrain => { c with wrbuf := c.wrbuf.drop Config.streamChunkMax, written := true }
  | .streamPoll => { c with written := true }

/-- FRAME_ENC and LM_WRITE of the exchange (47_exchange.md step 2). -/
def State.writeExchangeFrame (op : ExOp) (r : Nat) (c : Client) (s : State) : State :=
  match s.buildFrame s.sourceId op.rr c.destId (exchangePayload op c) with
  | none => s.raise .payloadTooLong r
  | some (bs, s') => { s' with txbuf := s'.txbuf ++ bs }.modClient r (Client.afterFrame op)

/-- The next primitive step of the exchange of `r` that waits for no event: in EX_TOKEN the write, then
the drain's swap (47_exchange.md step 2, R326); in EX_SENT of an exchange without a reply, and in
EX_DECODED, LOCK_RELEASE and the result (47_exchange.md R316 to R322; log 19). Where no such step is
enabled, nothing happens. -/
def State.exchangeStep (r : Nat) (s : State) : State :=
  if s.fatal then s
  else
    match s.clients[r]? with
    | none => s
    | some c =>
      match c.exs, c.exOp with
      | .token, some op =>
        if s.token = .held r then
          if c.written then
            if s.drs = .idle then s.startDrain r else s
          else s.writeExchangeFrame op r c
        else s
      | .sent, some .registerWrite => s.endCommand r .done
      | .sent, some .streamDrain => s.endCommand r .done
      | .decoded, some _ =>
        match c.outcome with
        | some res => s.endCommand r res
        | none => s
      | _, _ => s

/-! ### Steps 3 to 5: the reply -/

/-- The result of a round without a reply (47_exchange.md R318, R322). -/
def noReplyResult (op : ExOp) (why : NoReplyWhy) : Result :=
  match op with
  | .registerQuery => .noReply why
  | .registerWrite => .cancelled
  | .streamDrain => .cancelled
  | .streamPoll => if why = .cancelled then .cancelled else .appended 0

/-- The result of a cancelled command (47_exchange.md R324, 60_exceptions.md R353). -/
def cancelResult (op : Option ExOp) : Result :=
  match op with
  | some op => noReplyResult op .cancelled
  | none => .cancelled

/-- The result is there; LOCK_RELEASE and the return are the exchange's next step (47_exchange.md step 5;
log 19). -/
def State.conclude (r : Nat) (res : Result) (s : State) : State :=
  s.modClient r fun c => { c with outcome := some res }

/-- REGISTER_QUERY's decode (47_exchange.md R318 step 4, R325). -/
def State.decodeQuery (r : Nat) (f : Frame) (s : State) : State :=
  match s.runParse f.payload with
  | (.stop why, s') => s'.conclude r (.reply s'.reply why f.crcOk)
  | (.overlong, s') => s'.raise .varuintOverlong r

/-- STREAM_POLL's decode (47_exchange.md R322 step 4, R325). -/
def State.decodePoll (r : Nat) (c : Client) (f : Frame) (s : State) : State :=
  let p := s2c (Reader.start f.payload)
  let s' := s.fetched p.2
  match p.1 with
  | .accept channel data =>
    (s'.acceptStream r c.channel channel data).conclude r
      (.appended (acceptedCount c.channel channel data))
  | .reject => s'.conclude r (.appended 0)
  | .overlong => s'.raise .varuintOverlong r

/-- EX_DECODED and the decode, in the step that delivers the frame (47_exchange.md R316; log 19). -/
def State.decodeExchange (op : ExOp) (r : Nat) (c : Client) (f : Frame) (s : State) : State :=
  let s' := s.modClient r fun c => { c with exs := .decoded }
  match op with
  | .registerQuery => s'.decodeQuery r f
  | .streamPoll => s'.decodePoll r c f
  | .registerWrite => s'.conclude r .done
  | .streamDrain => s'.conclude r .done

/-- The registers of a requester whose exchange is cancelled in EX_DECODED: a cancelled poll leaves RDBUF as
it was, so what the decode appended is taken back (47_exchange.md R324; log 11). -/
def Client.takeBack (c : Client) : Client :=
  match c.outcome with
  | some (.appended n) => { c with rdbuf := c.rdbuf.take (c.rdbuf.length - n) }
  | _ => c

end Sys2Proof.Machine
end

