-- ==== Sys2Proof/Machine/FrameCodec.lean ====
section
/-! DEFINITION. CRC16 (spec/41_crc16.md), FRAME_ENC and FRAME_DEC (spec/42_frame_codec.md). -/

namespace Sys2Proof.Machine

open Sys2Proof

/-- CRC16 (41_crc16.md R150). -/
def execCrc16 (data : Bytes) (s : State) : Out :=
  onCommand s fun r _ => { s with crcAcc := crc16 data }.ret r (.crc (crc16 data))

/-- FRAME_ENC (42_frame_codec.md R166, R167). -/
def execFrameEnc (srcId : Id7) (rr : Bool) (dstId : Id7) (payload : Bytes) (s : State) : Out :=
  onCommand s fun r _ =>
    match s.buildFrame srcId rr dstId payload with
    | none => s.raise .payloadTooLong r
    | some (bs, s') => s'.ret r (.bytes bs)

/-- What FRAME_DEC gives back for a whole frame with computed CRC `c` (42_frame_codec.md R170, R172;
`ev_crc_bad` on a mismatch by 60_exceptions.md R344, log 13). -/
def State.retDecoded (f : Frame) (c : BitVec 16) (r : Nat) (s : State) : State :=
  let s' := { s with crcAcc := c }.emit (if f.crcOk then [] else [.crcBad])
  if s.crcEnforce && !f.crcOk then s'.ret r (.resyncFault .badCrc)
  else s'.ret r (.decoded f (7 + f.payload.length))

/-- FRAME_DEC (42_frame_codec.md R170 to R173). -/
def execFrameDec (data : Bytes) (s : State) : Out :=
  onCommand s fun r _ =>
    match deframe data with
    | .incomplete => s.ret r .incomplete
    | .badMagic => s.ret r (.resyncFault .badMagic)
    | .whole f c => s.retDecoded f c r

end Sys2Proof.Machine
end

