-- ==== Sys2Proof/Machine/Link.lean ====
section
/-! DEFINITION. The link arbiter, the drain and the receive FSM (spec/43_link_manager.md), and the
environment's events (spec/60_exceptions.md section 5). -/

namespace Sys2Proof.Machine

open Sys2Proof

/-! ### The token -/

/-- LOCK_ACQUIRE step 1 (43_link_manager.md R190). -/
def execLockAcquire (s : State) : Out :=
  onCommand s fun r _ => s.requestToken none r

/-- LOCK_RELEASE (43_link_manager.md R191). -/
def execLockRelease (s : State) : Out :=
  onCommand s fun r _ =>
    if s.token = .held r then { s with token := .free }.ret r .done else s.raise .lockMisuse r

/-- LOCK_ACQUIRE step 2, the grant (43_link_manager.md R190): any waiter, when the token is free. A bare
LOCK_ACQUIRE returns Granted; an exchange goes on in EX_TOKEN (47_exchange.md R316). -/
def State.grant (r : Nat) (s : State) : State :=
  if s.fatal then s
  else if s.token = .free ∧ r ∈ s.waiters then
    let s' := { s with token := .held r, waiters := waitersErase r s.waiters }
    match (s.clients[r]?).bind Client.exOp with
    | none => s'.ret r .granted
    | some _ => s'.modClient r fun c => { c with exs := .token, written := false, cancelled := false }
  else s

/-! ### Transmit -/

/-- LM_WRITE (43_link_manager.md R193). -/
def execLmWrite (data : Bytes) (s : State) : Out :=
  onCommand s fun r _ => { s with txbuf := s.txbuf ++ data }.ret r .done

/-- LM_DRAIN step 1 (43_link_manager.md R194). -/
def execLmDrain (s : State) : Out :=
  onCommand s fun r _ => if s.token = .held r then s.startDrain r else s.raise .noToken r

/-- The TX engine's step (43_link_manager.md R195), disabled when FATAL = 1 (60_exceptions.md R347). -/
def State.txWrite (s : State) : State :=
  if s.fatal then s
  else if s.drs = .write then { s with wire := s.wire ++ s.txflight, txflight := [], drs := .flush }
  else s

/-- What follows the completed drain of `r`: a cancelled command ends (43_link_manager.md R197(d)); a bare
LM_DRAIN returns Done; an exchange goes to EX_SENT and, where a reply is awaited, at once to EX_AWAIT with
its read (47_exchange.md R316, R318 step 3). -/
def State.drained (r : Nat) (c : Client) (s : State) : State :=
  if c.cancelled then s.endCommand r (cancelResult c.exOp)
  else
    match c.exOp with
    | none => s.ret r .done
    | some op =>
      if op.hasReply then
        (s.modClient r fun c => { c with exs := .await }).acceptRead r (some c.destId)
      else s.modClient r fun c => { c with exs := .sent }

/-- The event `tx_flushed` (43_link_manager.md R196, 60_exceptions.md R347, R354). -/
def State.txFlushed (s : State) : State :=
  if s.fatal then s
  else if s.drs = .flush then
    let s' := { s with drs := .idle, drOwner := none }
    match s.drOwner with
    | none => s'
    | some r =>
      match s.clients[r]? with
      | none => s'
      | some c => s'.drained r c
  else s

/-! ### Receive -/

/-- LM_READ_FRAME (43_link_manager.md R200). -/
def execLmReadFrame (onlyFrom : Option Id7) (s : State) : Out :=
  onCommand s fun r _ => if s.token = .held r then s.acceptRead r onlyFrom else s.raise .noToken r

/-- How a frame read ends (43_link_manager.md R211). -/
inductive ReadEnd where
  | frame (f : Frame)
  | noData
  | resyncTimeout
  | timeout
  | cancelled
deriving DecidableEq, Repr

/-- A read of an exchange ends (47_exchange.md R321): a frame is decoded, a stray frame is skipped and
the read issued again in the same step, anything else ends the round. -/
def State.exchangeRead (op : ExOp) (r : Nat) (c : Client) (e : ReadEnd) (s : State) : State :=
  match e with
  | .frame f => s.decodeExchange op r c f
  | .noData => s.acceptRead r (some c.destId)
  | .resyncTimeout => s.endCommand r (noReplyResult op .resyncTimeout)
  | .timeout => s.endCommand r (noReplyResult op .timeout)
  | .cancelled => s.endCommand r (noReplyResult op .cancelled)

/-- A bare read ends; a cancelled one also gives up the token (60_exceptions.md R353). -/
def State.bareRead (r : Nat) (e : ReadEnd) (s : State) : State :=
  match e with
  | .cancelled => s.endCommand r .cancelled
  | .frame f => s.ret r (.frame f)
  | .noData => s.ret r .noData
  | .resyncTimeout => s.ret r .resyncTimeout
  | .timeout => s.ret r .timeout

/-- `RXS <- RX_IDLE ; RX_OWNER <- None`, and the result to the owner (43_link_manager.md R203, R206,
R210). -/
def State.endRead (e : ReadEnd) (s : State) : State :=
  let s' := { s with rx := { s.rx with state := .idle, owner := none } }
  match s.rx.owner with
  | none => s'
  | some r =>
    match s.clients[r]? with
    | none => s'
    | some c =>
      match c.exOp with
      | none => s'.bareRead r e
      | some op => s'.exchangeRead op r c e

/-- The resynchronization discard (43_link_manager.md R203): what is pending, up to the window. -/
def State.discard (s : State) : State :=
  { s with rxq := s.rxq.drop (min s.resyncWindow s.rxq.length) }.emit [.resync]

/-- `crc_step` on the remainder of the read (43_link_manager.md R202, R204, R205; 10_state.md R22; log 12). -/
def RxEngine.feed (b : Byte) (rx : RxEngine) : RxEngine := { rx with acc := crcStep rx.acc b }

/-- The staging of a header byte (43_link_manager.md R202). -/
def RxEngine.headerByte (b : Byte) (rx : RxEngine) : RxEngine :=
  match rx.cnt.toNat with
  | 0 => { rx with magic := rx.magic.extractLsb' 8 8 ++ b, cnt := rx.cnt + 1 }
  | 1 => { rx with magic := b ++ rx.magic.extractLsb' 0 8, cnt := rx.cnt + 1 }
  | 2 => { rx with src := b, cnt := rx.cnt + 1 }
  | 3 => { rx with dst := b, cnt := rx.cnt + 1 }
  | _ => { rx with cnt := rx.cnt + 1 }

/-- RX_HDR (43_link_manager.md R202, R203). CRC_ACC takes the read's remainder, here and in every later byte
step that feeds it. -/
def State.rxHeader (b : Byte) (s : State) : State :=
  let rx := (s.rx.feed b).headerByte b
  let s' := { s with crcAcc := rx.acc, rx := rx }
  if rx.cnt = 4 then
    if rx.magic = Config.magic then { s' with rx := { rx with state := .len } }
    else s'.discard.endRead .resyncTimeout
  else s'

/-- RX_LEN (43_link_manager.md R204). -/
def State.rxLength (b : Byte) (s : State) : State :=
  let rx := s.rx.feed b
  { s with crcAcc := rx.acc, rx := { rx with len := b, cnt := 0, state := .body } }

/-- The received frame as staged (43_link_manager.md R206 step 4). -/
def RxEngine.staged (rx : RxEngine) (ok : Bool) : Frame :=
  { srcId := rx.src.setWidth 7, rr := rx.src.msb, dstId := rx.dst.setWidth 7, dstB7 := rx.dst.msb,
    payload := rx.payload, crcRx := rx.crc, crcOk := ok }

/-- The source filter turns the frame away (43_link_manager.md R206 step 3, R207): 7 bits are compared. -/
def RxEngine.stray (rx : RxEngine) : Bool :=
  match rx.filter with
  | none => false
  | some f => decide (rx.src.setWidth 7 ≠ f)

/-- Frame completion (43_link_manager.md R206): CRC, then filter, then delivery. The CRC is the read's own
(10_state.md R22; log 12). -/
def State.rxComplete (s : State) : State :=
  let ok := crcMatches s.rx.acc s.rx.crc
  let s' := { s with crcOk := ok }.emit (if ok then [] else [.crcBad])
  if s.crcEnforce && !ok then s'.discard.endRead .resyncTimeout
  else if s.rx.stray then s'.endRead .noData
  else s'.endRead (.frame (s.rx.staged ok))

/-- RX_BODY (43_link_manager.md R205). -/
def State.rxBody (b : Byte) (s : State) : State :=
  if s.rx.cnt < s.rx.len.setWidth 9 then
    let rx := s.rx.feed b
    { s with
      crcAcc := rx.acc
      rx := { rx with payload := rx.payload ++ [b], cnt := rx.cnt + 1 } }
  else if s.rx.cnt = s.rx.len.setWidth 9 then
    { s with rx := { s.rx with crc := s.rx.crc.extractLsb' 8 8 ++ b, cnt := s.rx.cnt + 1 } }
  else
    { s with rx := { s.rx with crc := b ++ s.rx.crc.extractLsb' 0 8, cnt := s.rx.cnt + 1 } }.rxComplete

/-- The action of the current RX state on a byte (43_link_manager.md R201). -/
def State.rxTake (b : Byte) (s : State) : State :=
  match s.rx.state with
  | .idle => s
  | .hdr => s.rxHeader b
  | .len => s.rxLength b
  | .body => s.rxBody b

/-- The RX engine's byte step (43_link_manager.md R201): enabled in a read with a byte pending, and when
FATAL = 0 (60_exceptions.md R347). -/
def State.rxByte (s : State) : State :=
  if s.fatal then s
  else if s.rx.state = .idle then s
  else
    match s.rxq with
    | [] => s
    | b :: q => { s with rxq := q }.rxTake b

/-! ### The environment -/

/-- `rx_arrive(b)` (10_state.md R40): enabled at every moment, FATAL or not (60_exceptions.md R347). -/
def State.rxArrive (b : Byte) (s : State) : State := { s with rxq := s.rxq ++ [b] }

/-- `timeout(r)` (60_exceptions.md R352, 43_link_manager.md R210). -/
def State.timeout (r : Nat) (s : State) : State :=
  if s.fatal then s
  else if s.rx.owner = some r ∧ s.rx.state ≠ .idle then s.endRead .timeout
  else s

/-- `cancel(r)` (60_exceptions.md R353, 47_exchange.md R324): a waiter leaves WAITERS; a drain, and an
exchange whose drain follows without waiting, is marked and ends when the drain completes; a read ends
at once; an exchange in EX_SENT or EX_DECODED ends at once (47_exchange.md R316; log 11). -/
def State.cancel (r : Nat) (s : State) : State :=
  if s.fatal then s
  else
    match s.clients[r]? with
    | none => s
    | some c =>
      if r ∈ s.waiters then
        ({ s with waiters := waitersErase r s.waiters }.modClient r Client.rest).ret r
          (cancelResult c.exOp)
      else if s.drOwner = some r ∧ s.drs ≠ .idle then
        s.modClient r fun c => { c with cancelled := true }
      else if s.rx.owner = some r ∧ s.rx.state ≠ .idle then s.endRead .cancelled
      else if c.exs = .token then s.modClient r fun c => { c with cancelled := true }
      else if c.exs = .sent ∨ c.exs = .decoded then
        (s.modClient r Client.takeBack).endCommand r (cancelResult c.exOp)
      else s

/-! ### A whole frame from the environment -/

/-- Bytes delivered by the environment, the RX engine taking a byte step after each (10_state.md R40,
43_link_manager.md R201; log 7). -/
def State.deliver (bs : Bytes) (s : State) : State := bs.foldl (fun s b => (s.rxArrive b).rxByte) s

/-- FRAME (30_encoding.md R90): the frame's `7 + LEN` bytes arrive and the deframer runs on them. -/
def execFrame (src dst : Byte) (payload : Bytes) (crc : BitVec 16) (s : State) : Out :=
  .next (s.deliver (encode (.frame src dst payload crc)))

end Sys2Proof.Machine
end

