-- ==== Sys2Proof/Machine/RegisterEncoder.lean ====
section
/-! DEFINITION. The register command encoder (spec/44_register_encoder.md): the request sub-frames
0x10 to 0x1F and the RQ_ commands. -/

namespace Sys2Proof.Machine

open Sys2Proof

/-- READ_SINGLE_INT8 (44_register_encoder.md R232). -/
def execReadSingleInt8 (reg : U32) (s : State) : Out :=
  onCommand s fun r _ => s.appendRequest r (readSingleBytes .int8 reg)

/-- READ_SINGLE_INT16 (44_register_encoder.md R233). -/
def execReadSingleInt16 (reg : U32) (s : State) : Out :=
  onCommand s fun r _ => s.appendRequest r (readSingleBytes .int16 reg)

/-- READ_SINGLE_INT32 (44_register_encoder.md R234). -/
def execReadSingleInt32 (reg : U32) (s : State) : Out :=
  onCommand s fun r _ => s.appendRequest r (readSingleBytes .int32 reg)

/-- READ_SINGLE_FLOAT (44_register_encoder.md R235). -/
def execReadSingleFloat (reg : U32) (s : State) : Out :=
  onCommand s fun r _ => s.appendRequest r (readSingleBytes .float reg)

/-- READ_MULTIPLE_INT8 (44_register_encoder.md R236). -/
def execReadMultipleInt8 (reg count : U32) (s : State) : Out :=
  onCommand s fun r _ => s.appendRequest r (readMultipleBytes .int8 reg count)

/-- READ_MULTIPLE_INT16 (44_register_encoder.md R237). -/
def execReadMultipleInt16 (reg count : U32) (s : State) : Out :=
  onCommand s fun r _ => s.appendRequest r (readMultipleBytes .int16 reg count)

/-- READ_MULTIPLE_INT32 (44_register_encoder.md R238). -/
def execReadMultipleInt32 (reg count : U32) (s : State) : Out :=
  onCommand s fun r _ => s.appendRequest r (readMultipleBytes .int32 reg count)

/-- READ_MULTIPLE_FLOAT (44_register_encoder.md R239). -/
def execReadMultipleFloat (reg count : U32) (s : State) : Out :=
  onCommand s fun r _ => s.appendRequest r (readMultipleBytes .float reg count)

/-- WRITE_SINGLE_INT8 (44_register_encoder.md R240). -/
def execWriteSingleInt8 (reg : U32) (b : BitVec 8) (s : State) : Out :=
  onCommand s fun r _ => s.appendRequest r (writeSingleBytes reg (.i8 b))

/-- WRITE_SINGLE_INT16 (44_register_encoder.md R241). -/
def execWriteSingleInt16 (reg : U32) (b : BitVec 16) (s : State) : Out :=
  onCommand s fun r _ => s.appendRequest r (writeSingleBytes reg (.i16 b))

/-- WRITE_SINGLE_INT32 (44_register_encoder.md R242). -/
def execWriteSingleInt32 (reg : U32) (b : BitVec 32) (s : State) : Out :=
  onCommand s fun r _ => s.appendRequest r (writeSingleBytes reg (.i32 b))

/-- WRITE_SINGLE_FLOAT (44_register_encoder.md R243). -/
def execWriteSingleFloat (reg : U32) (b : BitVec 32) (s : State) : Out :=
  onCommand s fun r _ => s.appendRequest r (writeSingleBytes reg (.f32 b))

/-- WRITE_MULTIPLE_INT8 (44_register_encoder.md R244). -/
def execWriteMultipleInt8 (start : U32) (vals : List (BitVec 8)) (s : State) : Out :=
  onCommand s fun r _ => s.appendWriteMultiple .int8 start (vals.map TV.i8) r

/-- WRITE_MULTIPLE_INT16 (44_register_encoder.md R245). -/
def execWriteMultipleInt16 (start : U32) (vals : List (BitVec 16)) (s : State) : Out :=
  onCommand s fun r _ => s.appendWriteMultiple .int16 start (vals.map TV.i16) r

/-- WRITE_MULTIPLE_INT32 (44_register_encoder.md R246). -/
def execWriteMultipleInt32 (start : U32) (vals : List (BitVec 32)) (s : State) : Out :=
  onCommand s fun r _ => s.appendWriteMultiple .int32 start (vals.map TV.i32) r

/-- WRITE_MULTIPLE_FLOAT (44_register_encoder.md R247). -/
def execWriteMultipleFloat (start : U32) (vals : List (BitVec 32)) (s : State) : Out :=
  onCommand s fun r _ => s.appendWriteMultiple .float start (vals.map TV.f32) r

/-- RQ_CLEAR (44_register_encoder.md R231). -/
def execRqClear (s : State) : Out :=
  onCommand s fun r _ => (s.modClient r fun c => { c with reqbuf := [] }).ret r .done

/-- RQ_READ_SINGLE (44_register_encoder.md R232 to R235). -/
def execRqReadSingle (reg : U32) (ty : TypeTag) (s : State) : Out :=
  onCommand s fun r _ => s.appendRequest r (readSingleBytes ty reg)

/-- RQ_READ_MULTIPLE (44_register_encoder.md R236 to R239). -/
def execRqReadMultiple (reg count : U32) (ty : TypeTag) (s : State) : Out :=
  onCommand s fun r _ => s.appendRequest r (readMultipleBytes ty reg count)

/-- RQ_WRITE_SINGLE (44_register_encoder.md R240 to R243). -/
def execRqWriteSingle (reg : U32) (value : TV) (s : State) : Out :=
  onCommand s fun r _ => s.appendRequest r (writeSingleBytes reg value)

/-- RQ_WRITE_MULTIPLE (44_register_encoder.md R244 to R247, R251, R252). -/
def execRqWriteMultiple (start : U32) (values : List TV) (s : State) : Out :=
  onCommand s fun r _ => s.appendWriteMultiple (firstTag values) start values r

end Sys2Proof.Machine
end

