-- ==== Sys2Proof/Machine/Varuint.lean ====
section
/-! DEFINITION. VU_ENC and VU_DEC (spec/40_varuint.md). -/

namespace Sys2Proof.Machine

open Sys2Proof

/-- VU_ENC (40_varuint.md R131). -/
def execVuEnc (value : U32) (s : State) : Out :=
  onCommand s fun r _ => s.ret r (.bytes (vuEnc value))

/-- What VU_DEC gives back (40_varuint.md R134), the overlong varuint being fatal (R135). -/
def State.retVarint (res : VuResult) (r : Nat) (s : State) : State :=
  match res with
  | .value v n => s.ret r (.value v n)
  | .noData => s.ret r .noData
  | .truncated => s.ret r .truncated
  | .overlong => s.raise .varuintOverlong r

/-- VU_DEC from index 0 (30_encoding.md R120, 40_varuint.md R134). -/
def execVuDec (src : Bytes) (s : State) : Out :=
  onCommand s fun r _ => { s with vu := (vuDec src 0).2 }.retVarint (vuDec src 0).1 r

end Sys2Proof.Machine
end

