-- ==== Sys2Proof/Machine/Dispatch.lean ====
section
/-! DEFINITION. One arm per row of the opcode table: each calls its own meaning. -/

namespace Sys2Proof.Machine

open Sys2Proof

def exec (i : Instr) (s : State) : Host.Outcome State Fault Refusal :=
  match i with
  | .frame src dst payload crc => Sys2Proof.Machine.execFrame src dst payload crc s
  | .writeSingleInt8 reg b => Sys2Proof.Machine.execWriteSingleInt8 reg b s
  | .writeSingleInt16 reg b => Sys2Proof.Machine.execWriteSingleInt16 reg b s
  | .writeSingleInt32 reg b => Sys2Proof.Machine.execWriteSingleInt32 reg b s
  | .writeSingleFloat reg b => Sys2Proof.Machine.execWriteSingleFloat reg b s
  | .writeMultipleInt8 start vals => Sys2Proof.Machine.execWriteMultipleInt8 start vals s
  | .writeMultipleInt16 start vals => Sys2Proof.Machine.execWriteMultipleInt16 start vals s
  | .writeMultipleInt32 start vals => Sys2Proof.Machine.execWriteMultipleInt32 start vals s
  | .writeMultipleFloat start vals => Sys2Proof.Machine.execWriteMultipleFloat start vals s
  | .readSingleInt8 reg => Sys2Proof.Machine.execReadSingleInt8 reg s
  | .readSingleInt16 reg => Sys2Proof.Machine.execReadSingleInt16 reg s
  | .readSingleInt32 reg => Sys2Proof.Machine.execReadSingleInt32 reg s
  | .readSingleFloat reg => Sys2Proof.Machine.execReadSingleFloat reg s
  | .readMultipleInt8 reg count => Sys2Proof.Machine.execReadMultipleInt8 reg count s
  | .readMultipleInt16 reg count => Sys2Proof.Machine.execReadMultipleInt16 reg count s
  | .readMultipleInt32 reg count => Sys2Proof.Machine.execReadMultipleInt32 reg count s
  | .readMultipleFloat reg count => Sys2Proof.Machine.execReadMultipleFloat reg count s
  | .replySingleInt8 reg b => Sys2Proof.Machine.execReplySingleInt8 reg b s
  | .replySingleInt16 reg b => Sys2Proof.Machine.execReplySingleInt16 reg b s
  | .replySingleInt32 reg b => Sys2Proof.Machine.execReplySingleInt32 reg b s
  | .replySingleFloat reg b => Sys2Proof.Machine.execReplySingleFloat reg b s
  | .replyMultipleInt8 start count vals => Sys2Proof.Machine.execReplyMultipleInt8 start count vals s
  | .replyMultipleInt16 start count vals => Sys2Proof.Machine.execReplyMultipleInt16 start count vals s
  | .replyMultipleInt32 start count vals => Sys2Proof.Machine.execReplyMultipleInt32 start count vals s
  | .replyMultipleFloat start count vals => Sys2Proof.Machine.execReplyMultipleFloat start count vals s
  | .writeError reg code => Sys2Proof.Machine.execWriteError reg code s
  | .readError reg code => Sys2Proof.Machine.execReadError reg code s
  | .streamC2s channel data => Sys2Proof.Machine.execStreamC2s channel data s
  | .streamS2c channel data => Sys2Proof.Machine.execStreamS2c channel data s
  | .vuEnc value => Sys2Proof.Machine.execVuEnc value s
  | .vuDec src => Sys2Proof.Machine.execVuDec src s
  | .crc16 data => Sys2Proof.Machine.execCrc16 data s
  | .frameEnc srcId rr dstId payload => Sys2Proof.Machine.execFrameEnc srcId rr dstId payload s
  | .frameDec data => Sys2Proof.Machine.execFrameDec data s
  | .lockAcquire => Sys2Proof.Machine.execLockAcquire s
  | .lockRelease => Sys2Proof.Machine.execLockRelease s
  | .lmWrite data => Sys2Proof.Machine.execLmWrite data s
  | .lmDrain => Sys2Proof.Machine.execLmDrain s
  | .lmReadFrame onlyFrom => Sys2Proof.Machine.execLmReadFrame onlyFrom s
  | .rqClear => Sys2Proof.Machine.execRqClear s
  | .rqReadSingle reg ty => Sys2Proof.Machine.execRqReadSingle reg ty s
  | .rqReadMultiple reg count ty => Sys2Proof.Machine.execRqReadMultiple reg count ty s
  | .rqWriteSingle reg value => Sys2Proof.Machine.execRqWriteSingle reg value s
  | .rqWriteMultiple start values => Sys2Proof.Machine.execRqWriteMultiple start values s
  | .parseRegisterReply payload => Sys2Proof.Machine.execParseRegisterReply payload s
  | .registerQuery => Sys2Proof.Machine.execRegisterQuery s
  | .registerWrite => Sys2Proof.Machine.execRegisterWrite s
  | .streamWrite data => Sys2Proof.Machine.execStreamWrite data s
  | .streamDrain => Sys2Proof.Machine.execStreamDrain s
  | .streamPoll => Sys2Proof.Machine.execStreamPoll s
  | .streamTake size => Sys2Proof.Machine.execStreamTake size s

end Sys2Proof.Machine
end

