-- ==== Sys2Proof/Machine/Fetch.lean ====
section
/-! DEFINITION. How a stimulus becomes a step: a command port's bytes are decoded and run, a sub-frame
before the codec is fetched and run, and every other agent takes its step (spec/00_scope.md R16). -/

namespace Sys2Proof.Machine

open Sys2Proof

/-- Bytes on a command port that are no command are refused without changing any state
(30_encoding.md R121; log 15). -/
def State.refuseCommand (s : State) : Out :=
  match s.clients[s.issuer]? with
  | none => .fault .noSuchRequester
  | some _ => .next (s.ret s.issuer .refused)

/-- A command presented by requester `r` (10_state.md R39). -/
def State.runCommand (r : Nat) (bs : Bytes) (s : State) : Out :=
  match decodeCommand bs with
  | .ok i => exec i { s with issuer := r }
  | .error _ => { s with issuer := r }.refuseCommand

/-- How far a received sub-frame run by itself is read: the stream check stops before the data
(46_stream_subframes.md R302), a reply sub-frame is read to its end. A choice of the model's own port
(log 31). -/
def fetchReader (i : Instr) (rd : Reader) : Reader :=
  match i with
  | .streamS2c _ _ => (s2c (Reader.start rd.pay)).2
  | _ => rd

/-- The registers after a received sub-frame has been fetched at CUR = 0 of the port's bytes
(45_register_reply_decoder.md R265, R266; log 31); the encoder's sub-frames are fetched from nowhere.
Where the codec does not run, nothing is fetched. -/
def State.fetchedSub (i : Instr) (rd : Reader) (s : State) : State :=
  if receivedSubframe i && s.ready then s.fetched (fetchReader i rd) else s

/-- The family the discriminator names, where it can be read and names one. -/
def discKind (bs : Bytes) : Option SubKind :=
  match (rdDisc (Reader.start bs)).1 with
  | .ok id => SubKind.ofCode id.toNat
  | .error _ => none

/-- The sub-frame port stops for `r`, REPLY staying as it is (log 28). -/
def State.stopSub (why : StopReason) (rd : Reader) (r : Nat) (s : State) : State :=
  let s' := (s.fetched rd).stop why
  s'.ret r (.parsed s'.reply why)

/-- Bytes on the sub-frame port that are no sub-frame: all of this is the model's own choice, as the port is
(log 28). An overlong varuint is fatal whatever the code (40_varuint.md R135). Otherwise a 0x41 sub-frame
that is cut short is rejected and nothing is appended (46_stream_subframes.md R302, R303); a reply
sub-frame that is cut short, and a discriminator that is cut short or names no sub-frame, stop as in a
parse (45_register_reply_decoder.md R265, R267, R282) with REPLY as it stands; a sub-frame of the encoder
that is cut short or has an operand of 2^32 or more (log 27) is refused. -/
def State.rejectSubframe (bs : Bytes) (e : Reject) (rd : Reader) (s : State) : Out :=
  match parseEndOf e with
  | .overlong => onCommand s fun r _ => (s.fetched rd).raise .varuintOverlong r
  | .stop why =>
    match discKind bs with
    | none => onCommand s fun r _ => s.stopSub why rd r
    | some .streamS2c => onCommand s fun _ _ => s.fetched rd
    | some k => if k.isReply then onCommand s fun r _ => s.stopSub why rd r else s.refuseCommand

/-- One sub-frame before the codec on behalf of `r` (log 6), and bytes that are none (log 28); more than a
frame's payload is refused. -/
def State.runSubframe (r : Nat) (bs : Bytes) (s : State) : Out :=
  let s' := { s with issuer := r }
  if Config.lenMax < bs.length then s'.refuseCommand
  else
    match decodeSub (Reader.start bs) with
    | (.ok i, rd) => exec i (s'.fetchedSub i rd)
    | (.error e, rd) => s'.rejectSubframe bs e rd

/-- A frame from the environment; bytes that are no whole frame arrive all the same (10_state.md R40). Bytes
behind a whole frame are not part of this stimulus and do not arrive (log 7). -/
def State.runFrame (bs : Bytes) (s : State) : Out :=
  match decodeFrame bs with
  | .ok i => exec i s
  | .error _ => .next (s.deliver bs)

/-- One step of the agent a stimulus names (00_scope.md R16). -/
def State.act (st : Stimulus) (s : State) : Out :=
  match st with
  | .command r bs => s.runCommand r bs
  | .subframe r bs => s.runSubframe r bs
  | .frame bs => s.runFrame bs
  | .grant r => .next (s.grant r)
  | .exchange r => .next (s.exchangeStep r)
  | .txWrite => .next s.txWrite
  | .rxByte => .next s.rxByte
  | .rxArrive b => .next (s.rxArrive b)
  | .txFlushed => .next s.txFlushed
  | .timeout r => .next (s.timeout r)
  | .cancel r => .next (s.cancel r)
  | .reset => .next s.resetEvent

/-- The stimulus that presents a word of the opcode table (log 5, log 8): before the codec or on the
command port of requester 0, or delivered as a frame. -/
def tableStimulus (nbits w : Nat) : Stimulus :=
  match tablePort (tableBytes nbits w) with
  | .command => .command 0 (tableBytes nbits w)
  | .subframe => .subframe 0 (tableBytes nbits w)
  | .wire => .frame (tableBytes nbits w)

end Sys2Proof.Machine
end

