-- ==== Sys2Proof/Machine/Step.lean ====
section
/-! DEFINITION. The step of the machine: the next stimulus of the schedule (spec/10_state.md R21) is taken.
The listed ones come first; where none is listed, the schedule is free (log 1). -/

namespace Sys2Proof.Machine

open Sys2Proof

/-- One step of the machine. -/
def step (s : State) : Host.Outcome State Fault Refusal :=
  match s.inputs with
  | st :: rest => { s with inputs := rest }.act st
  | [] => { s with tick := s.tick + 1 }.act (Config.schedule s.tick)

/-- The state whose next step runs the instruction of a table word: its stimulus stands first (log 8). -/
def State.withFetchWord (s : State) (nbits w : Nat) : State :=
  { s with inputs := tableStimulus nbits w :: s.inputs }

end Sys2Proof.Machine
end

