-- ==== Sys2Proof/Safety.lean ====
section
/-! DEFINITION. The terms the claims use: when a requester may issue a command, what a command's answer
looks like, runs of several stimuli, and the invariants of a safe run. -/

namespace Sys2Proof.Machine

open Sys2Proof

/-! ### Issuing and answering -/

/-- The issuer exists, FATAL = 0 (60_exceptions.md R347), and it has no command outstanding
(10_state.md R39). -/
abbrev State.CanIssue (s : State) : Prop :=
  s.issuer < s.clients.length ∧ s.fatal = false ∧ s.issuer ∉ s.waiters ∧
    s.drOwner ≠ some s.issuer ∧ s.rx.owner ≠ some s.issuer ∧
    ∀ c ∈ s.clients[s.issuer]?, c.exOp = none

/-- `s` with `res` on the result port of the issuer, nothing else changed (10_state.md R39). -/
def State.answered (res : Result) (s : State) : State :=
  { s with results := s.results ++ [(s.issuer, res)] }

/-- `s` after the fatal fault `c` with cause code `code` of the issuer's command
(60_exceptions.md R346), nothing else changed. -/
def State.faulted (c : Cause) (code : BitVec 4) (s : State) : State :=
  { s with
    fatal := true
    cause := code
    events := s.events ++ [.fatal c]
    results := s.results ++ [(s.issuer, .fatal c)] }

/-- `s` with the registers of the issuer changed by `f`, nothing else changed. -/
def State.issuerWith (f : Client → Client) (s : State) : State :=
  { s with clients := s.clients.modify s.issuer f }

/-- `s` with the bytes `bs` appended to REQBUF of the issuer and the result Done
(44_register_encoder.md R230). -/
def State.requested (bs : Bytes) (s : State) : State :=
  (s.issuerWith fun c => { c with reqbuf := c.reqbuf ++ bs }).answered .done

/-! ### Frames over the byte spaces (10_state.md R36) -/

/-- Every byte of every byte space reads as before. -/
def SameBytes (s t : State) : Prop :=
  ∀ x a n, t.memRead x a n = s.memRead x a n

/-- Every byte of every byte space other than `y` reads as before. -/
def SameBytesBut (y : ByteSpace) (s t : State) : Prop :=
  ∀ x, x ≠ y → ∀ a n, t.memRead x a n = s.memRead x a n

/-! ### Runs -/

/-- The stimuli `sts` are taken one after another, stopping at the first that gives no next state. -/
def State.acts : List Stimulus → State → Out
  | [], s => .next s
  | st :: sts, s =>
    match s.act st with
    | .next s' => State.acts sts s'
    | .fault f => .fault f
    | .refused r => .refused r

/-- `n` byte steps of the RX engine. -/
def State.rxBytes : Nat → State → State
  | 0, s => s
  | n + 1, s => State.rxBytes n s.rxByte

/-! ### Invariants -/

/-- What one requester's registers say, held against the token, WAITERS, the drain and the read
(47_exchange.md R315 to R319, R325; 43_link_manager.md R190). -/
abbrev ClientInv (s : State) (r : Nat) (c : Client) : Prop :=
  (c.exOp = none → c.exs = .idle) ∧
  (c.exs ≠ .idle → s.token = .held r) ∧
  (c.exOp ≠ none → c.exs = .idle → r ∈ s.waiters) ∧
  (r ∈ s.waiters → c.exs = .idle ∧ s.token ≠ .held r) ∧
  (c.exs = .token → s.rx.owner = none) ∧
  (c.exs = .sent → s.drOwner = none ∧ s.rx.owner = none ∧
    (c.exOp = some .registerWrite ∨ c.exOp = some .streamDrain)) ∧
  (c.exs = .await → s.rx.owner = some r ∧
    (c.exOp = some .registerQuery ∨ c.exOp = some .streamPoll)) ∧
  (c.exs = .decoded → (s.fatal = true ∨ c.outcome ≠ none) ∧
    (c.exOp = some .registerQuery ∨ c.exOp = some .streamPoll)) ∧
  (c.outcome ≠ none → c.exs = .decoded) ∧
  (s.drOwner = some r → c.exOp ≠ none → c.exs = .token ∧ c.written = true) ∧
  (c.exOp = some .registerQuery ∨ c.exOp = some .registerWrite → c.reqbuf.length ≤ 255) ∧
  (s.rx.owner = some r → c.exOp ≠ none → c.exs = .await)

/-- The link arbiter's registers agree: only the token holder drains and reads, never both at once;
DR_OWNER is set exactly while a drain runs and RX_OWNER exactly while a read does; TXFLIGHT holds bytes
only before the transport write; every owner and waiter exists (43_link_manager.md R190 to R206). -/
abbrev State.LinkInv (s : State) : Prop :=
  s.waiters.Pairwise (· < ·) ∧
  (∀ r ∈ s.waiters, r < s.clients.length) ∧
  (∀ r ∈ s.drOwner, s.token = .held r ∧ r < s.clients.length) ∧
  (∀ r ∈ s.rx.owner, s.token = .held r ∧ r < s.clients.length) ∧
  (s.drOwner = none ∨ s.rx.owner = none) ∧
  (s.drs = .idle ↔ s.drOwner = none) ∧
  (s.txflight ≠ [] → s.drs = .write) ∧
  (s.rx.state = .idle ↔ s.rx.owner = none) ∧
  ∀ r < s.clients.length, ∀ c ∈ s.clients[r]?, ClientInv s r c

/-- The staging registers, the parse buffer and the varuint scratch stay in the ranges 10_state.md R24,
R25, R27, R28 and R36 give, a frame in reception has as many payload bytes as were counted, and the
read's remainder is the CRC of exactly the bytes it has taken (10_state.md R22, 43_link_manager.md R202 to
R205). -/
abbrev State.StagingInv (s : State) : Prop :=
  s.rx.payload.length ≤ 255 ∧ s.rx.cnt.toNat ≤ 257 ∧
  (s.rx.state = .hdr → s.rx.cnt.toNat < 4 ∧ s.rx.payload = [] ∧
    s.rx.acc = crc16 ([s.rx.magic.extractLsb' 0 8, s.rx.magic.extractLsb' 8 8, s.rx.src].take
      s.rx.cnt.toNat)) ∧
  (s.rx.state = .len → s.rx.cnt.toNat = 4 ∧ s.rx.payload = [] ∧ s.rx.magic = Config.magic ∧
    s.rx.acc = crc16 [0x54, 0xAB, s.rx.src, s.rx.dst]) ∧
  (s.rx.state = .body → s.rx.cnt.toNat ≤ s.rx.len.toNat + 1 ∧
    s.rx.payload.length = min s.rx.cnt.toNat s.rx.len.toNat ∧ s.rx.magic = Config.magic ∧
    s.rx.acc = crc16 ([0x54, 0xAB, s.rx.src, s.rx.dst, s.rx.len] ++ s.rx.payload)) ∧
  s.pay.length ≤ 255 ∧ s.cur ≤ s.pay.length ∧
  s.vu.cnt.toNat ≤ 5 ∧ s.vu.shift.toNat = 7 * s.vu.cnt.toNat

/-- REPLY is in its canonical form; CAUSE is 0 exactly when FATAL is, and never an unused code
(60_exceptions.md R341). -/
abbrev State.StatusInv (s : State) : Prop :=
  ReplyMap.wf s.reply ∧ (s.fatal = false ↔ s.cause = 0) ∧ s.cause.toNat ≤ 6

/-! ### Wire frames, as the claims spell them (20_memory.md R71) -/

/-- The five header bytes of a frame with raw source and destination bytes. -/
def frameHeader (src dst : Byte) (n : Nat) : Bytes := [0x54, 0xAB, src, dst, BitVec.ofNat 8 n]

/-- The CRC a frame should carry (30_encoding.md R96). -/
def frameCrc (src dst : Byte) (payload : Bytes) : BitVec 16 :=
  crc16 (frameHeader src dst payload.length ++ payload)

/-- A frame whose CRC field is `crc`. -/
def wireFrame (src dst : Byte) (payload : Bytes) (crc : BitVec 16) : Bytes :=
  frameHeader src dst payload.length ++ payload ++ [crc.extractLsb' 0 8, crc.extractLsb' 8 8]

/-- The frame the block sends from its id to `dst`: the reserved bit 0, the CRC right. -/
def sentFrame (rr : Bool) (src dst : Id7) (payload : Bytes) : Bytes :=
  let s : Byte := BitVec.ofBool rr ++ src
  let d : Byte := 0#1 ++ dst
  wireFrame s d payload (frameCrc s d payload)

/-- The frame as LM_READ_FRAME and FRAME_DEC report it (42_frame_codec.md R165). -/
def reportedFrame (src dst : Byte) (payload : Bytes) (crc : BitVec 16) : Frame :=
  { srcId := src.setWidth 7, rr := src.msb, dstId := dst.setWidth 7, dstB7 := dst.msb,
    payload := payload, crcRx := crc, crcOk := decide (frameCrc src dst payload = crc) }

/-- A read of requester `r` has just been accepted: no byte of its frame is in yet
(43_link_manager.md R200). -/
abbrev State.ReadStarted (s : State) (r : Nat) : Prop :=
  s.fatal = false ∧ s.rx.state = .hdr ∧ s.rx.cnt = 0 ∧ s.rx.payload = [] ∧ s.rx.acc = 0xFFFF ∧
    s.rx.owner = some r

/-- The receive engine once a whole frame has been taken and the read has ended. -/
def RxEngine.afterFrame (rx : RxEngine) (src dst : Byte) (payload : Bytes) (crc : BitVec 16) :
    RxEngine :=
  { rx with
    state := .idle, owner := none, magic := 0xAB54, src := src, dst := dst,
    len := BitVec.ofNat 8 payload.length, payload := payload, crc := crc
    acc := frameCrc src dst payload
    cnt := BitVec.ofNat 9 (payload.length + 2) }

/-! ### Requesters and the reply map -/

/-- A requester's exchange registers at the end of a command (47_exchange.md R316). -/
def Client.atRest (c : Client) : Client :=
  { c with exs := .idle, exOp := none, written := false, cancelled := false, outcome := none }

/-- The ten sub-frames the register reply decoder handles, codes 0x20 to 0x29
(45_register_reply_decoder.md R265). -/
def isRegisterReply : Instr → Bool
  | .replySingleInt8 _ _ => true
  | .replySingleInt16 _ _ => true
  | .replySingleInt32 _ _ => true
  | .replySingleFloat _ _ => true
  | .replyMultipleInt8 _ _ _ => true
  | .replyMultipleInt16 _ _ _ => true
  | .replyMultipleInt32 _ _ _ => true
  | .replyMultipleFloat _ _ _ => true
  | .writeError _ _ => true
  | .readError _ _ => true
  | _ => false

/-- `m'` is `m` with the entry `e` under `key`, whatever stood there (45_register_reply_decoder.md
R269). -/
def Entered (key : Nat) (e : Entry) (m m' : ReplyMap) : Prop :=
  ∀ k, ReplyMap.lookup k m' = if k = key then some e else ReplyMap.lookup k m

/-- `m'` is `m` with value `i` of `vals` under `start + i`, a sum of natural numbers
(45_register_reply_decoder.md R278, R279). -/
def MultipleEntered (start : Nat) (vals : List TV) (m m' : ReplyMap) : Prop :=
  ∀ k, ReplyMap.lookup k m' =
    if start ≤ k ∧ k < start + vals.length then (vals[k - start]?).map Entry.val
    else ReplyMap.lookup k m

/-- VU_DEC at `i` finds no whole varuint there (40_varuint.md R134). -/
abbrev VuEnds (src : Bytes) (i : Nat) : Prop :=
  (vuDec src i).1 = VuResult.noData ∨ (vuDec src i).1 = VuResult.truncated

/-- The tail begins a reply sub-frame and ends inside it (45_register_reply_decoder.md R267, R278): in the
index, in a single value, in the count or code, or in the values of a REPLY_MULTIPLE, of which those that
are there whole go into the map as the entries `es`. -/
def TailCutShort (tail : Bytes) (es : List (Nat × Entry)) : Prop :=
  ∃ id n, (vuDec tail 0).1 = VuResult.value id n ∧ 0x20 ≤ id.toNat ∧ id.toNat ≤ 0x29 ∧
    (es = [] ∧ VuEnds tail n ∨
     ∃ index k, (vuDec tail n).1 = VuResult.value index k ∧
       ((es = [] ∧ ∃ ty : TypeTag, id.toNat = 0x20 + ty.num.toNat ∧ tail.length < n + k + ty.width) ∨
        (es = [] ∧ 0x24 ≤ id.toNat ∧ VuEnds tail (n + k)) ∨
        ∃ count j, (vuDec tail (n + k)).1 = VuResult.value count j ∧
          ∃ ty : TypeTag, id.toNat = 0x24 + ty.num.toNat ∧
            tail.length < n + k + j + count.toNat * ty.width ∧
            let data := tail.drop (n + k + j)
            es = multipleEntries index.toNat ((List.range (data.length / ty.width)).map fun i =>
              TV.ofBytes ty ((data.drop (i * ty.width)).take ty.width))))

/-- A tail of a reply at which the parse stops, and the entries it still gives
(45_register_reply_decoder.md R265, R267, R268, R278, R282): nothing left, a discriminator other than 0x20
to 0x29, one that is cut short, or a sub-frame that is. -/
def TailStops (tail : Bytes) (why : StopReason) (es : List (Nat × Entry)) : Prop :=
  (why = .exhausted ∧ es = [] ∧ tail = []) ∨
  (why = .unknownId ∧ es = [] ∧ ∃ id n, (vuDec tail 0).1 = VuResult.value id n ∧
    ¬ (0x20 ≤ id.toNat ∧ id.toNat ≤ 0x29)) ∨
  (why = .truncated ∧ (es = [] ∧ (vuDec tail 0).1 = VuResult.truncated ∨ TailCutShort tail es))

/-- An overlong varuint stands where the parse of a reply's tail reads one, those before it being whole: as
the discriminator, as a sub-frame's index, or as its count or code (45_register_reply_decoder.md R265,
R284). -/
def ReplyFieldOverlong (tail : Bytes) : Prop :=
  (vuDec tail 0).1 = VuResult.overlong ∨
  ∃ id n, (vuDec tail 0).1 = VuResult.value id n ∧ 0x20 ≤ id.toNat ∧ id.toNat ≤ 0x29 ∧
    ((vuDec tail n).1 = VuResult.overlong ∨
     ∃ index k, (vuDec tail n).1 = VuResult.value index k ∧ 0x24 ≤ id.toNat ∧
       (vuDec tail (n + k)).1 = VuResult.overlong)

/-- The first sub-frame of a stream reply is a whole 0x41 sub-frame (46_stream_subframes.md R302). -/
def StreamAccepts (payload : Bytes) (channel : VuValue) (data : Bytes) : Prop :=
  ∃ n k j length, (vuDec payload 0).1 = VuResult.value 0x41 n ∧
    (vuDec payload n).1 = VuResult.value channel k ∧
    (vuDec payload (n + k)).1 = VuResult.value length j ∧
    n + k + j + length.toNat ≤ payload.length ∧
    data = (payload.drop (n + k + j)).take length.toNat

/-- A stream reply brings no data (46_stream_subframes.md R302, R303): it ends before its three varuints
do, or they are whole and its first sub-frame is not 0x41 or has its data cut short. -/
def StreamRejects (payload : Bytes) : Prop :=
  VuEnds payload 0 ∨
  ∃ id n, (vuDec payload 0).1 = VuResult.value id n ∧
    (VuEnds payload n ∨
     ∃ channel k, (vuDec payload n).1 = VuResult.value channel k ∧
       (VuEnds payload (n + k) ∨
        ∃ length j, (vuDec payload (n + k)).1 = VuResult.value length j ∧
          (id ≠ 0x41 ∨ payload.length < n + k + j + length.toNat)))

/-- One of the first three varuints of a stream reply is overlong, those before it being whole
(46_stream_subframes.md R302). -/
def StreamFieldOverlong (payload : Bytes) : Prop :=
  (vuDec payload 0).1 = VuResult.overlong ∨
  ∃ id n, (vuDec payload 0).1 = VuResult.value id n ∧
    ((vuDec payload n).1 = VuResult.overlong ∨
     ∃ channel k, (vuDec payload n).1 = VuResult.value channel k ∧
       (vuDec payload (n + k)).1 = VuResult.overlong)

/-- The straps of the block: SOURCE_ID, CRC_ENFORCE, RESYNC_WINDOW, and each requester's DEST_ID and
CHANNEL (10_state.md R32). -/
def State.straps (s : State) : Id7 × Bool × Nat × List (Id7 × U32) :=
  (s.sourceId, s.crcEnforce, s.resyncWindow, s.clients.map fun c => (c.destId, c.channel))

/-- EXS of requester `r`; idle where there is no such requester. -/
def State.exsOf (s : State) (r : Nat) : ExState := ((s.clients[r]?).map Client.exs).getD .idle

/-- The number a sequence of varuint bytes denotes, least significant group first, the continuation bits
left out (30_encoding.md R97). -/
def groupValue : Bytes → Nat
  | [] => 0
  | b :: bs => (b.setWidth 7).toNat + 128 * groupValue bs

end Sys2Proof.Machine
end

