-- ==== Sys2Proof/Certificates/Slice0/Obligations.lean ====
section
/-! DEFINITION. The statements for the provers, in the order of OBLIGATIONS.json. `s.CanIssue` says that
the issuer exists, FATAL = 0 and no command of it is outstanding; `answered`, `faulted`, `requested` and
`issuerWith` are the record updates of Sys2Proof/Safety.lean. -/

open Sys2Proof Sys2Proof.Machine

/-! ### Encoding -/

/-- Words written out from the encodings of 30_encoding.md (R90, R97 to R103) decode to the instructions
they stand for; the command labels are R120's, the operands after a label the model's own layout
(log 4). -/
def Obligations.DecodingIsRight : Prop :=
  decode .wire [0x54, 0xAB, 0x80, 0x05, 0x03, 0x40, 0x01, 0x00, 0x20, 0x39] =
    Except.ok (Instr.frame 0x80 0x05 [0x40, 0x01, 0x00] 0x3920) ∧
  decode .subframe [0x11, 0xAC, 0x02, 0xFE, 0xFF] = Except.ok (Instr.writeSingleInt16 300 0xFFFE) ∧
  decode .subframe [0x16, 0x80, 0x01, 0x01, 0x04, 0x03, 0x02, 0x01] =
    Except.ok (Instr.writeMultipleInt32 0x80 [0x01020304]) ∧
  decode .subframe [0x1B, 0x80, 0x01] = Except.ok (Instr.readSingleFloat 0x80) ∧
  decode .subframe [0x1D, 0x80, 0x02, 0x04] = Except.ok (Instr.readMultipleInt16 0x100 4) ∧
  decode .subframe [0x22, 0x10, 0x03, 0x04, 0x05, 0x06] =
    Except.ok (Instr.replySingleInt32 0x10 0x06050403) ∧
  decode .subframe [0xA0, 0x00, 0x10, 0x08] = Except.ok (Instr.replySingleInt8 0x10 0x08) ∧
  decode .subframe [0x24, 0x10, 0x03, 0x04, 0x05] =
    Except.ok (Instr.replyMultipleInt8 0x10 3 [0x04, 0x05]) ∧
  decode .subframe [0x29, 0xAC, 0x02, 0x05] = Except.ok (Instr.readError 300 5) ∧
  decode .subframe [0x41, 0x01, 0x02, 0x68, 0x69] = Except.ok (Instr.streamS2c 1 [0x68, 0x69]) ∧
  decode .command [0x10] = Except.ok Instr.lockAcquire ∧
  decode .command [0x30] = Except.ok Instr.registerQuery

/-- DECODE AND ENCODE AGREE on all 28 sub-frames (30_encoding.md R99, R102), and a sub-frame ends where
its fields end: whatever follows is not read. (A REPLY_MULTIPLE that the payload cuts short is whole only
at the payload's end.) -/
def Obligations.SubframeDecodeEncode : Prop :=
  ∀ i : Instr, i.port = .subframe → i.wf = true →
    decode .subframe (encode i) = Except.ok i ∧
    (replyShort i = false → ∀ rest : Bytes,
      (decodeSub (Reader.start (encode i ++ rest))).1 = Except.ok i ∧
      (decodeSub (Reader.start (encode i ++ rest))).2.cur = (encode i).length)

/-- DECODE AND ENCODE AGREE on all 22 host commands. The operand layout on the command port is the
model's own (log 4); the spec gives labels only (30_encoding.md R120). -/
def Obligations.CommandDecodeEncode : Prop :=
  ∀ i : Instr, i.port = .command → i.wf = true → decode .command (encode i) = Except.ok i

/-- The bytes of a frame stand where 20_memory.md R71 says, `7 + L` of them, and are read back whatever
follows. -/
def Obligations.FrameLayout : Prop :=
  ∀ (src dst : Byte) (payload : Bytes) (crc : BitVec 16) (rest : Bytes), payload.length ≤ 255 →
    encode (.frame src dst payload crc) =
      [0x54, 0xAB, src, dst, BitVec.ofNat 8 payload.length] ++ payload ++
        [crc.extractLsb' 0 8, crc.extractLsb' 8 8] ∧
    (encode (.frame src dst payload crc)).length = 7 + payload.length ∧
    decode .wire (encode (.frame src dst payload crc) ++ rest) =
      Except.ok (Instr.frame src dst payload crc)

/-- What a decoder gives is an instruction of its own port within the operand ranges. -/
def Obligations.DecodedIsWellFormed : Prop :=
  ∀ (p : Port) (bs : Bytes) (i : Instr), decode p bs = Except.ok i → i.wf = true ∧ i.port = p

/-! ### The step -/

/-- A STEP RUNS THE DECODED INSTRUCTION: a command for the requester on whose port it stands; a sub-frame
of at most a frame's payload, with the registers a received one is fetched into; a frame that arrives
(logs 1, 6, 7: the ports for sub-frames and frames are the model's own). -/
def Obligations.StepRunsTheDecodedInstruction : Prop :=
  (∀ (s : State) (r : Nat) (bs : Bytes) (rest : List Stimulus) (i : Instr),
    s.inputs = .command r bs :: rest → decode .command bs = Except.ok i →
    step s = exec i { s with inputs := rest, issuer := r }) ∧
  (∀ (s : State) (r : Nat) (bs : Bytes) (rest : List Stimulus) (i : Instr) (rd : Reader),
    s.inputs = .subframe r bs :: rest → bs.length ≤ 255 →
    decodeSub (Reader.start bs) = (Except.ok i, rd) →
    step s = exec i (State.fetchedSub i rd { s with inputs := rest, issuer := r })) ∧
  (∀ (s : State) (bs : Bytes) (rest : List Stimulus) (i : Instr),
    s.inputs = .frame bs :: rest → decode .wire bs = Except.ok i →
    step s = exec i { s with inputs := rest })

/-! ### Varuint -/

/-- VU_ENC (40_varuint.md R131): the length by range, byte `k` holding bits `7k+6 : 7k` with the
continuation bit on every byte but the last, the last byte of five in 0x01..0x0F; no state written. -/
def Obligations.VuEncGivesTheShortestGroups : Prop :=
  ∀ (v : U32) (s : State), s.CanIssue →
    (∃ t, exec (.vuEnc v) s = .next t ∧ t = s.answered (.bytes (vuEnc v)) ∧ SameBytes s t) ∧
    (vuEnc v).length =
      (if v.toNat ≤ 0x7F then 1 else if v.toNat ≤ 0x3FFF then 2 else if v.toNat ≤ 0x1FFFFF then 3
        else if v.toNat ≤ 0xFFFFFFF then 4 else 5) ∧
    (∀ k < (vuEnc v).length,
      (vuEnc v)[k]? =
        some ((if k + 1 = (vuEnc v).length then 0#1 else 1#1) ++ v.extractLsb' (7 * k) 7)) ∧
    ((vuEnc v).length = 5 →
      ∃ b, (vuEnc v)[4]? = some b ∧ 0x01 ≤ b.toNat ∧ b.toNat ≤ 0x0F)

/-- VU_DEC (40_varuint.md R134, R135). The first `k` bytes have bit 7 set: then a byte without it ends
the value; the end of the source gives NoData or Truncated; five such bytes are the fatal fault. The
scratch registers hold what has been read, VU_SHIFT 7 for each byte, so 35 after five, where 10_state.md
R25 lists 0 to 28 (the model's reading, log 14); nothing else changes. Reading at an index is reading the
rest of the source. -/
def Obligations.VuDecReadsTheGroups : Prop :=
  (∀ (src : Bytes) (k : Nat) (s : State), s.CanIssue → (∀ j < k, ∀ b ∈ src[j]?, b.msb = true) →
    (∀ b, k < 5 → src[k]? = some b → b.msb = false →
      ∃ t, exec (.vuDec src) s = .next t ∧
        t = { s with
              vu := ⟨BitVec.ofNat 35 (groupValue (src.take (k + 1))), BitVec.ofNat 6 (7 * (k + 1)),
                BitVec.ofNat 3 (k + 1)⟩ }.answered
              (.value (BitVec.ofNat 35 (groupValue (src.take (k + 1)))) (k + 1)) ∧
        SameBytes s t) ∧
    (k < 5 → src.length = k →
      ∃ t, exec (.vuDec src) s = .next t ∧
        t = { s with
              vu := ⟨BitVec.ofNat 35 (groupValue src), BitVec.ofNat 6 (7 * k),
                BitVec.ofNat 3 k⟩ }.answered (if k = 0 then .noData else .truncated) ∧
        SameBytes s t) ∧
    (k = 5 → 5 ≤ src.length →
      ∃ t, exec (.vuDec src) s = .next t ∧
        t = { s with vu := ⟨BitVec.ofNat 35 (groupValue (src.take 5)), 35, 5⟩ }.faulted
              .varuintOverlong 1 ∧
        SameBytes s t)) ∧
  (∀ (src : Bytes) (i : Nat), vuDec src i = vuDec (src.drop i) 0)

/-- The round trip of 40_varuint.md R139, and its converse on shortest encodings. -/
def Obligations.VarintRoundTrip : Prop :=
  (∀ v : U32, (vuDec (vuEnc v) 0).1 = VuResult.value (v.setWidth 35) (vuEnc v).length) ∧
  (∀ (bs : Bytes) (v : U32), (vuDec bs 0).1 = VuResult.value (v.setWidth 35) bs.length →
    (∀ bs' : Bytes, (vuDec bs' 0).1 = VuResult.value (v.setWidth 35) bs'.length →
      bs.length ≤ bs'.length) →
    vuEnc v = bs)

/-! ### CRC -/

/-- CRC16 (41_crc16.md R150): CRC_ACC starts at 0xFFFF, takes `crc_step` for each byte in order, and is
the result; nothing else changes. `crc_step` is 41_crc16.md R151's, the reference values R153's. -/
def Obligations.Crc16Runs : Prop :=
  (∀ (data : Bytes) (s : State), s.CanIssue →
    ∃ t, exec (.crc16 data) s = .next t ∧
      t = { s with crcAcc := crc16 data }.answered (.crc (crc16 data)) ∧ SameBytes s t) ∧
  crc16 [] = 0xFFFF ∧
  (∀ (data : Bytes) (b : Byte), crc16 (data ++ [b]) = crcStep (crc16 data) b) ∧
  (∀ (c : BitVec 16) (b : Byte),
    crcStep c b =
      (fun c : BitVec 16 => if c.getLsbD 15 then (c <<< 1) ^^^ 0x1021 else c <<< 1)^[8]
        (c ^^^ (b ++ 0x00#8))) ∧
  crc16 [0x54, 0xAB, 0x00, 0x05, 0x07, 0x40, 0x01, 0x04, 0x74, 0x65, 0x73, 0x74] = 0xA001 ∧
  crc16 [0x00] = 0xE1F0 ∧ crc16 [0xFF] = 0xFF00 ∧ crc16 [0x54] = 0xFB81 ∧
  crc16 [0x54, 0xAB] = 0xDBF5 ∧
  crc16 [0x31, 0x32, 0x33, 0x34, 0x35, 0x36, 0x37, 0x38, 0x39] = 0x29B1

/-- One byte of a sent frame is changed (41_crc16.md R157): in the magic it is a resynchronization fault; in
the length byte the frame is delimited differently, and a greater length leaves it incomplete; anywhere
else FRAME_DEC reports a CRC that does not match, and rejects the frame when CRC_ENFORCE = 1. -/
def Obligations.CorruptByteIsDetected : Prop :=
  ∀ (rr : Bool) (src dst : Id7) (payload : Bytes) (j : Nat) (b : Byte) (s : State),
    s.CanIssue → payload.length ≤ 255 → j < 7 + payload.length →
    (sentFrame rr src dst payload)[j]? ≠ some b →
    ∃ t, exec (.frameDec ((sentFrame rr src dst payload).set j b)) s = .next t ∧
      (j < 2 → t = s.answered (.resyncFault .badMagic)) ∧
      (j = 4 → payload.length < b.toNat → t = s.answered .incomplete) ∧
      (2 ≤ j → j ≠ 4 → s.crcEnforce = true →
        t.results = s.results ++ [(s.issuer, .resyncFault .badCrc)]) ∧
      (2 ≤ j → j ≠ 4 → s.crcEnforce = false →
        ∃ f, t.results = s.results ++ [(s.issuer, .decoded f (7 + payload.length))] ∧
          f.crcOk = false)

/-! ### The frame codec -/

/-- FRAME_ENC (42_frame_codec.md R166, R167): header, length byte, payload, CRC low byte first; CRC_ACC is
the one register written. A payload of 256 bytes or more is the fatal fault and no byte is produced. -/
def Obligations.FrameEncBuildsTheFrame : Prop :=
  ∀ (srcId : Id7) (rr : Bool) (dstId : Id7) (payload : Bytes) (s : State), s.CanIssue →
    let body : Bytes :=
      [0x54, 0xAB, BitVec.ofBool rr ++ srcId, 0#1 ++ dstId, BitVec.ofNat 8 payload.length] ++ payload
    let c := crc16 body
    (payload.length < 256 →
      ∃ t, exec (.frameEnc srcId rr dstId payload) s = .next t ∧
        t = { s with crcAcc := c }.answered
              (.bytes (body ++ [c.extractLsb' 0 8, c.extractLsb' 8 8])) ∧
        SameBytes s t) ∧
    (256 ≤ payload.length →
      ∃ t, exec (.frameEnc srcId rr dstId payload) s = .next t ∧
        t = s.faulted .payloadTooLong 2 ∧ SameBytes s t)

/-- FRAME_DEC (42_frame_codec.md R170 to R173) on any bytes: too short to judge the magic, a wrong magic,
a frame cut short, and a whole frame with whatever follows it. That `ev_crc_bad` is emitted on a mismatch
follows 60_exceptions.md R344 (log 13: the model's reading). -/
def Obligations.FrameDecReadsTheFrame : Prop :=
  ∀ s : State, s.CanIssue →
    (∀ data : Bytes, data.length < 4 → exec (.frameDec data) s = .next (s.answered .incomplete)) ∧
    (∀ (m0 m1 b2 b3 : Byte) (rest : Bytes), ¬ (m0 = 0x54 ∧ m1 = 0xAB) →
      exec (.frameDec (m0 :: m1 :: b2 :: b3 :: rest)) s =
        .next (s.answered (.resyncFault .badMagic))) ∧
    (∀ src dst : Byte,
      exec (.frameDec [0x54, 0xAB, src, dst]) s = .next (s.answered .incomplete)) ∧
    (∀ (src dst len : Byte) (rest : Bytes), rest.length < len.toNat + 2 →
      exec (.frameDec (0x54 :: 0xAB :: src :: dst :: len :: rest)) s =
        .next (s.answered .incomplete)) ∧
    (∀ (src dst : Byte) (payload : Bytes) (crc : BitVec 16) (rest : Bytes), payload.length ≤ 255 →
      ∃ t, exec (.frameDec (wireFrame src dst payload crc ++ rest)) s = .next t ∧
        SameBytes s t ∧
        t = { s with
              crcAcc := frameCrc src dst payload
              events := s.events ++
                (if frameCrc src dst payload = crc then [] else [Event.crcBad]) }.answered
              (if s.crcEnforce = true ∧ frameCrc src dst payload ≠ crc then .resyncFault .badCrc
               else .decoded (reportedFrame src dst payload crc) (7 + payload.length)))

/-- The round trip of 42_frame_codec.md R175: the bytes FRAME_ENC answers are decoded by FRAME_DEC, in any
state of the block and for either value of CRC_ENFORCE, to the same fields. -/
def Obligations.FrameRoundTrip : Prop :=
  ∀ (srcId : Id7) (rr : Bool) (dstId : Id7) (payload : Bytes) (s : State), s.CanIssue →
    payload.length < 256 →
    ∃ (bs : Bytes) (c : BitVec 16),
      exec (.frameEnc srcId rr dstId payload) s =
        .next ({ s with crcAcc := c }.answered (.bytes bs)) ∧
      c = crc16 (bs.take (5 + payload.length)) ∧
      ∀ u : State, u.CanIssue →
        exec (.frameDec bs) u =
          .next ({ u with crcAcc := c }.answered
            (.decoded
              { srcId := srcId, rr := rr, dstId := dstId, dstB7 := false, payload := payload,
                crcRx := c, crcOk := true } (7 + payload.length)))

/-! ### The token -/

/-- LOCK_ACQUIRE step 1 (43_link_manager.md R190): a requester that does not hold the token joins WAITERS
and nothing else changes; one that does raises F_LOCK_MISUSE. -/
def Obligations.LockAcquireAsks : Prop :=
  ∀ s : State, s.CanIssue →
    (s.token ≠ .held s.issuer →
      ∃ t, exec .lockAcquire s = .next t ∧ t = { s with waiters := t.waiters } ∧
        (∀ q, q ∈ t.waiters ↔ q = s.issuer ∨ q ∈ s.waiters) ∧ SameBytes s t) ∧
    (s.token = .held s.issuer →
      ∃ t, exec .lockAcquire s = .next t ∧ t = s.faulted .lockMisuse 4 ∧ SameBytes s t)

/-- LOCK_ACQUIRE step 2, the grant (43_link_manager.md R190; 47_exchange.md R316): any waiter when the
token is free; a bare LOCK_ACQUIRE returns Granted, an exchange goes to EX_TOKEN. Where it is not enabled
nothing happens. A held token leaves its holder only by the holder's LOCK_RELEASE, the end of its
exchange, its cancelled drain or read, or reset, and is then free (60_exceptions.md R353, R360). -/
def Obligations.GrantHandsTheToken : Prop :=
  (∀ (s : State) (r : Nat) (c : Client), s.clients[r]? = some c →
    (s.fatal = false → s.token = .free → r ∈ s.waiters →
      ∃ t, s.act (.grant r) = .next t ∧ t.token = .held r ∧
        (∀ q, q ∈ t.waiters ↔ q ≠ r ∧ q ∈ s.waiters) ∧ SameBytes s t ∧
        (c.exOp = none →
          t = { s with
                token := .held r, waiters := t.waiters, results := s.results ++ [(r, .granted)] }) ∧
        (c.exOp ≠ none →
          t = { s with
                token := .held r, waiters := t.waiters
                clients := s.clients.modify r fun c =>
                  { c with exs := .token, written := false, cancelled := false } })) ∧
    (s.fatal = true ∨ s.token ≠ .free ∨ r ∉ s.waiters → s.act (.grant r) = .next s)) ∧
  (∀ (s t : State) (st : Stimulus) (q : Nat), s.LinkInv → s.token = .held q → s.act st = .next t →
    t.token = .held q ∨
    (t.token = .free ∧
      (st = .reset ∨
       (∃ bs, st = .command q bs ∧ decode .command bs = Except.ok .lockRelease ∧
          { s with issuer := q }.CanIssue) ∨
       (s.exsOf q ≠ .idle ∧ t.exsOf q = .idle) ∨
       (st = .cancel q ∧ s.rx.owner = some q) ∨
       (st = .txFlushed ∧ s.drOwner = some q ∧
          ∃ c, s.clients[q]? = some c ∧ c.cancelled = true))))

/-- LOCK_RELEASE (43_link_manager.md R191): the holder frees the token, anyone else raises F_LOCK_MISUSE;
at a release RXS = RX_IDLE and DRS = DR_IDLE. -/
def Obligations.LockReleaseFrees : Prop :=
  ∀ s : State, s.CanIssue →
    (s.token = .held s.issuer →
      (∃ t, exec .lockRelease s = .next t ∧ t = { s with token := .free }.answered .done ∧
        SameBytes s t) ∧
      (s.LinkInv → s.rx.state = .idle ∧ s.drs = .idle)) ∧
    (s.token ≠ .held s.issuer →
      ∃ t, exec .lockRelease s = .next t ∧ t = s.faulted .lockMisuse 4 ∧ SameBytes s t)

/-! ### Transmit -/

/-- LM_WRITE (43_link_manager.md R193): the data go to the end of TXBUF, token or no token. -/
def Obligations.LmWriteAppends : Prop :=
  ∀ (data : Bytes) (s : State), s.CanIssue →
    ∃ t, exec (.lmWrite data) s = .next t ∧
      t = { s with txbuf := s.txbuf ++ data }.answered .done ∧ SameBytesBut .txbuf s t

/-- LM_DRAIN step 1 (43_link_manager.md R194): the holder swaps the buffer out; anyone else raises
F_NO_TOKEN and changes no buffer. -/
def Obligations.LmDrainSwapsTheBuffer : Prop :=
  ∀ s : State, s.CanIssue →
    (s.token = .held s.issuer →
      ∃ t, exec .lmDrain s = .next t ∧
        t = { s with
              txflight := s.txbuf, txbuf := [], drOwner := some s.issuer, drs := .write } ∧
        ∀ x, x ≠ .txbuf → x ≠ .txflight → ∀ a n, t.memRead x a n = s.memRead x a n) ∧
    (s.token ≠ .held s.issuer →
      ∃ t, exec .lmDrain s = .next t ∧ t = s.faulted .noToken 3 ∧ SameBytes s t)

/-- The TX engine's step (43_link_manager.md R195): exactly one transport write of all of TXFLIGHT;
disabled otherwise and when FATAL = 1. -/
def Obligations.TxEngineWritesOnce : Prop :=
  ∀ s : State,
    (s.fatal = false → s.drs = .write →
      s.act .txWrite =
        .next { s with wire := s.wire ++ s.txflight, txflight := [], drs := .flush }) ∧
    (s.fatal = true ∨ s.drs ≠ .write → s.act .txWrite = .next s)

/-- Drain completion (43_link_manager.md R196, R197 (d); 47_exchange.md R316, R324): `tx_flushed` ends the
drain of its owner. A cancelled one, bare or in an exchange, ends with Cancelled (REGISTER_QUERY:
NoReply(Cancelled)) and the token free; else a bare one returns Done, and an exchange goes to EX_SENT,
those with a reply at once on to EX_AWAIT with their read accepted. -/
def Obligations.DrainCompletesOnFlush : Prop :=
  ∀ (s : State) (r : Nat) (c : Client), s.fatal = false → s.drs = .flush → s.drOwner = some r →
    s.clients[r]? = some c →
    (c.cancelled = true →
      ∃ t, s.act .txFlushed = .next t ∧ SameBytes s t ∧
        t = { s with
              drs := .idle, drOwner := none, token := .free
              clients := s.clients.modify r Client.atRest
              results := s.results ++
                [(r, if c.exOp = some .registerQuery then .noReply .cancelled else .cancelled)] }) ∧
    (c.cancelled = false →
      (c.exOp = none →
        ∃ t, s.act .txFlushed = .next t ∧ SameBytes s t ∧
          t = { s with drs := .idle, drOwner := none, results := s.results ++ [(r, .done)] }) ∧
      (c.exOp = some .registerWrite ∨ c.exOp = some .streamDrain →
        ∃ t, s.act .txFlushed = .next t ∧ SameBytes s t ∧
          t = { s with
                drs := .idle, drOwner := none
                clients := s.clients.modify r fun c => { c with exs := .sent } }) ∧
      (c.exOp = some .registerQuery ∨ c.exOp = some .streamPoll →
        ∃ t, s.act .txFlushed = .next t ∧ SameBytesBut .rxPayload s t ∧
          t = { s with
                drs := .idle, drOwner := none
                clients := s.clients.modify r fun c => { c with exs := .await }
                rx := { s.rx with
                  state := .hdr, owner := some r, filter := some c.destId, cnt := 0, payload := []
                  acc := 0xFFFF }
                crcAcc := 0xFFFF }))

/-- Transmit order (20_memory.md R74; 47_exchange.md R326): until a reset, WIRE, TXFLIGHT and TXBUF laid end
to end only grow at the end, by the operand of an accepted LM_WRITE, by the frame an exchange writes, and
by nothing in any other step; WIRE grows only by the TX engine. So no byte is duplicated, dropped or
reordered. -/
def Obligations.TransmitOrder : Prop :=
  ∀ (s t : State) (st : Stimulus), s.LinkInv → st ≠ .reset → s.act st = .next t →
    (∃ w, t.wire ++ t.txflight ++ t.txbuf = s.wire ++ s.txflight ++ s.txbuf ++ w ∧
      (w = [] ∨
       (∃ q bs, st = .command q bs ∧ decode .command bs = Except.ok (.lmWrite w)) ∨
       (∃ q c op, st = .exchange q ∧ s.clients[q]? = some c ∧ c.exOp = some op ∧
          w = sentFrame op.rr s.sourceId c.destId (exchangePayload op c))) ∧
      (∀ q bs data, st = .command q bs → decode .command bs = Except.ok (.lmWrite data) →
        { s with issuer := q }.CanIssue → w = data) ∧
      (∀ q c op, st = .exchange q → s.fatal = false → s.clients[q]? = some c → c.exs = .token →
        c.written = false → c.exOp = some op → (exchangePayload op c).length ≤ 255 →
        w = sentFrame op.rr s.sourceId c.destId (exchangePayload op c))) ∧
    (∃ w, t.wire = s.wire ++ w ∧ (st ≠ .txWrite → w = []))

/-! ### Receive -/

/-- LM_READ_FRAME (43_link_manager.md R200): the holder's read starts, with its filter, a fresh count, an
empty payload and a fresh CRC; anyone else raises F_NO_TOKEN. -/
def Obligations.LmReadFrameStartsTheRead : Prop :=
  ∀ (onlyFrom : Option Id7) (s : State), s.CanIssue →
    (s.token = .held s.issuer →
      ∃ t, exec (.lmReadFrame onlyFrom) s = .next t ∧
        t = { s with
              rx := { s.rx with
                state := .hdr, owner := some s.issuer, filter := onlyFrom, cnt := 0, payload := []
                acc := 0xFFFF }
              crcAcc := 0xFFFF } ∧
        SameBytesBut .rxPayload s t) ∧
    (s.token ≠ .held s.issuer →
      ∃ t, exec (.lmReadFrame onlyFrom) s = .next t ∧ t = s.faulted .noToken 3 ∧ SameBytes s t)

/-- The RX engine's byte step short of a frame's end (43_link_manager.md R201, R202, R204, R205): one byte
leaves the front of RXQ and goes where RXS and RX_CNT say, the CRC going on from the read's own remainder
(10_state.md R22; log 12); with FATAL, in RX_IDLE or with RXQ empty nothing happens. -/
def Obligations.RxTakesOneByte : Prop :=
  ∀ (s : State) (b : Byte) (q : Bytes),
    let fed : RxEngine := { s.rx with acc := crcStep s.rx.acc b }
    (s.fatal = true ∨ s.rx.state = .idle ∨ s.rxq = [] → s.act .rxByte = .next s) ∧
    (s.fatal = false → s.rxq = b :: q →
      (s.rx.state = .hdr → s.rx.cnt = 0 →
        s.act .rxByte = .next { s with
          rxq := q, crcAcc := fed.acc
          rx := { fed with magic := fed.magic.extractLsb' 8 8 ++ b, cnt := 1 } }) ∧
      (s.rx.state = .hdr → s.rx.cnt = 1 →
        s.act .rxByte = .next { s with
          rxq := q, crcAcc := fed.acc
          rx := { fed with magic := b ++ fed.magic.extractLsb' 0 8, cnt := 2 } }) ∧
      (s.rx.state = .hdr → s.rx.cnt = 2 →
        s.act .rxByte = .next { s with
          rxq := q, crcAcc := fed.acc, rx := { fed with src := b, cnt := 3 } }) ∧
      (s.rx.state = .hdr → s.rx.cnt = 3 → s.rx.magic = 0xAB54 →
        s.act .rxByte = .next { s with
          rxq := q, crcAcc := fed.acc
          rx := { fed with dst := b, cnt := 4, state := .len } }) ∧
      (s.rx.state = .len →
        s.act .rxByte = .next { s with
          rxq := q, crcAcc := fed.acc
          rx := { fed with len := b, cnt := 0, state := .body } }) ∧
      (s.rx.state = .body → s.rx.cnt.toNat < s.rx.len.toNat →
        s.act .rxByte = .next { s with
          rxq := q, crcAcc := fed.acc
          rx := { fed with payload := fed.payload ++ [b], cnt := fed.cnt + 1 } }) ∧
      (s.rx.state = .body → s.rx.cnt.toNat = s.rx.len.toNat →
        s.act .rxByte = .next { s with
          rxq := q
          rx := { s.rx with crc := s.rx.crc.extractLsb' 8 8 ++ b, cnt := s.rx.cnt + 1 } }))

/-- Resynchronization (43_link_manager.md R203): at the fourth byte of a bad header up to RESYNC_WINDOW
pending bytes are discarded, `ev_resync` is emitted and nothing is fatal. A bare read ends with
ResyncTimeout and keeps the token; an exchange's ends its round with NoReply(ResyncTimeout) or Appended(0)
and the token free (47_exchange.md R317, R321). -/
def Obligations.BadMagicResynchronizes : Prop :=
  ∀ (s : State) (r : Nat) (c : Client) (b : Byte) (q : Bytes), s.fatal = false → s.rxq = b :: q →
    s.rx.state = .hdr → s.rx.cnt = 3 → s.rx.magic ≠ 0xAB54 → s.rx.owner = some r →
    s.clients[r]? = some c →
    let ended : State :=
      { s with
        rxq := q.drop (min s.resyncWindow q.length)
        crcAcc := crcStep s.rx.acc b
        rx := { s.rx with
          dst := b, cnt := 4, acc := crcStep s.rx.acc b, state := .idle, owner := none }
        events := s.events ++ [.resync] }
    (c.exOp = none →
      s.act .rxByte = .next { ended with results := s.results ++ [(r, .resyncTimeout)] }) ∧
    (∀ op, c.exOp = some op → op = .registerQuery ∨ op = .streamPoll →
      s.act .rxByte = .next { ended with
        token := .free
        clients := s.clients.modify r Client.atRest
        results := s.results ++
          [(r, if op = .registerQuery then .noReply .resyncTimeout else .appended 0)] })

/-- A WHOLE FRAME is taken by a read in exactly `7 + L` byte steps (70_reset_and_hazards.md R411) and judged
as 43_link_manager.md R206 orders its checks: CRC_OK and `ev_crc_bad`, then enforcement with its discard,
then the source filter on 7 bits, then delivery; nothing but the receive engine, CRC_ACC, CRC_OK, RXQ, the
events and the result of a bare read changes. A CRC mismatch that is enforced ends an exchange's round with
NoReply(ResyncTimeout) or Appended(0) and the token free (47_exchange.md R321). -/
def Obligations.WholeFrameIsReceived : Prop :=
  ∀ (s : State) (r : Nat) (c : Client) (src dst : Byte) (payload : Bytes) (crc : BitVec 16)
    (rest : Bytes), s.ReadStarted r → s.clients[r]? = some c → payload.length ≤ 255 →
    s.rxq = wireFrame src dst payload crc ++ rest →
    let acc := frameCrc src dst payload
    let taken : State :=
      { s with
        rxq := rest, crcAcc := acc, rx := s.rx.afterFrame src dst payload crc
        crcOk := decide (acc = crc) }
    let discarded : State :=
      { taken with
        rxq := rest.drop (min s.resyncWindow rest.length)
        events := s.events ++ [.crcBad, .resync] }
    (∀ n < 7 + payload.length, (s.rxBytes n).rx.owner = some r) ∧
    (c.exOp = none →
      s.rxBytes (7 + payload.length) =
        if acc ≠ crc ∧ s.crcEnforce = true then
          { discarded with results := s.results ++ [(r, .resyncTimeout)] }
        else
          { taken with
            events := s.events ++ (if acc = crc then [] else [Event.crcBad])
            results := s.results ++
              [(r, if s.rx.filter = none ∨ s.rx.filter = some (src.setWidth 7) then
                    .frame (reportedFrame src dst payload crc)
                  else .noData)] }) ∧
    (∀ op, c.exOp = some op → op = .registerQuery ∨ op = .streamPoll → acc ≠ crc →
      s.crcEnforce = true →
      s.rxBytes (7 + payload.length) =
        { discarded with
          token := .free
          clients := s.clients.modify r Client.atRest
          results := s.results ++
            [(r, if op = .registerQuery then .noReply .resyncTimeout else .appended 0)] })

/-- FRAME, the model's delivery of a whole frame (log 7): with no read pending, or FATAL = 1, its bytes
wait in RXQ (10_state.md R40, 43_link_manager.md R201); to a bare read that has just started on an empty
RXQ it is what `7 + L` byte steps make of it. -/
def Obligations.FrameIsDelivered : Prop :=
  ∀ (src dst : Byte) (payload : Bytes) (crc : BitVec 16) (s : State), payload.length ≤ 255 →
    (s.fatal = true ∨ s.rx.state = .idle →
      ∃ t, exec (.frame src dst payload crc) s = .next t ∧
        t = { s with rxq := s.rxq ++ wireFrame src dst payload crc } ∧ SameBytesBut .rxq s t) ∧
    (∀ (r : Nat) (c : Client), s.ReadStarted r → s.clients[r]? = some c → c.exOp = none →
      s.rxq = [] →
      exec (.frame src dst payload crc) s =
        .next ({ s with rxq := wireFrame src dst payload crc }.rxBytes (7 + payload.length)))

/-- Receive order (20_memory.md R75, 10_state.md R40): any byte may arrive at any moment, FATAL or not, and
joins RXQ at the back; bytes leave RXQ only at the front and only in a byte step of the RX engine (a pop
and the resync discard); a delivered frame (log 7: what follows its end does not arrive) joins at the back
and is then taken from the front. -/
def Obligations.ReceiveOrder : Prop :=
  (∀ (s : State) (b : Byte), s.act (.rxArrive b) = .next { s with rxq := s.rxq ++ [b] }) ∧
  (∀ (s t : State) (st : Stimulus), (∀ b, st ≠ .rxArrive b) → (∀ bs, st ≠ .frame bs) → st ≠ .reset →
    s.act st = .next t → ∃ n, t.rxq = s.rxq.drop n ∧ (st ≠ .rxByte → n = 0)) ∧
  (∀ (s t : State) (bs : Bytes), s.act (.frame bs) = .next t →
    ∃ arrived rest taken, bs = arrived ++ rest ∧
      (rest = [] ∨ ∃ i, decode .wire bs = Except.ok i ∧ arrived = encode i) ∧
      s.rxq ++ arrived = taken ++ t.rxq ∧ (s.fatal = true ∨ s.rx.state = .idle → taken = []))

/-! ### Events of the environment -/

/-- `timeout(r)` (60_exceptions.md R352, 43_link_manager.md R210) ends the pending read of `r`: a bare one
with Timeout and the token kept, an exchange's with its no-reply result and the token free. -/
def Obligations.TimeoutEndsTheRead : Prop :=
  ∀ (s : State) (r : Nat) (c : Client), s.fatal = false → s.rx.owner = some r →
    s.rx.state ≠ .idle → s.clients[r]? = some c →
    (c.exOp = none →
      ∃ t, s.act (.timeout r) = .next t ∧ SameBytes s t ∧
        t = { s with
              rx := { s.rx with state := .idle, owner := none }
              results := s.results ++ [(r, .timeout)] }) ∧
    (∀ op, c.exOp = some op → op = .registerQuery ∨ op = .streamPoll →
      ∃ t, s.act (.timeout r) = .next t ∧ SameBytes s t ∧
        t = { s with
              rx := { s.rx with state := .idle, owner := none }
              token := .free
              clients := s.clients.modify r Client.atRest
              results := s.results ++
                [(r, if op = .registerQuery then .noReply .timeout else .appended 0)] })

/-- `cancel(r)` (60_exceptions.md R353, 47_exchange.md R324): a wait for the token ends with Cancelled; a
drain goes on, marked (log 11), and no result is returned yet; a read ends with Cancelled and the token
free. For REGISTER_QUERY the result is NoReply(Cancelled). Where the table of R324 has no row, the model's
reading is log 11: before its drain an exchange is only marked, in EX_SENT and EX_DECODED it ends at once,
and a poll gives back what it appended. TXBUF and every byte but RDBUF's then stay. -/
def Obligations.CancelAbandonsTheCommand : Prop :=
  ∀ (s : State) (r : Nat) (c : Client), s.fatal = false → s.clients[r]? = some c →
    let res : Result := if c.exOp = some .registerQuery then .noReply .cancelled else .cancelled
    (r ∈ s.waiters →
      ∃ t, s.act (.cancel r) = .next t ∧ SameBytes s t ∧
        (∀ q, q ∈ t.waiters ↔ q ≠ r ∧ q ∈ s.waiters) ∧
        t = { s with
              waiters := t.waiters, clients := s.clients.modify r Client.atRest
              results := s.results ++ [(r, res)] }) ∧
    (r ∉ s.waiters → s.drOwner = some r → s.drs ≠ .idle →
      ∃ t, s.act (.cancel r) = .next t ∧ SameBytes s t ∧
        t = { s with clients := s.clients.modify r fun c => { c with cancelled := true } }) ∧
    (r ∉ s.waiters → s.drs = .idle → s.rx.owner = some r → s.rx.state ≠ .idle →
      ∃ t, s.act (.cancel r) = .next t ∧ SameBytes s t ∧
        t = { s with
              rx := { s.rx with state := .idle, owner := none }
              token := .free
              clients := s.clients.modify r Client.atRest
              results := s.results ++ [(r, res)] }) ∧
    (r ∉ s.waiters → s.drs = .idle → s.rx.state = .idle →
      (c.exs = .token →
        ∃ t, s.act (.cancel r) = .next t ∧ SameBytes s t ∧
          t = { s with clients := s.clients.modify r fun c => { c with cancelled := true } }) ∧
      (c.exs = .sent ∨ c.exs = .decoded →
        ((∀ n, c.outcome ≠ some (.appended n)) →
          ∃ t, s.act (.cancel r) = .next t ∧ SameBytes s t ∧
            t = { s with
                  token := .free, clients := s.clients.modify r Client.atRest
                  results := s.results ++ [(r, res)] }) ∧
        (∀ n, c.outcome = some (.appended n) →
          ∃ t, s.act (.cancel r) = .next t ∧ SameBytesBut (.rdbuf r) s t ∧
            t = { s with
                  token := .free
                  clients := s.clients.modify r fun c =>
                    { c.atRest with rdbuf := c.rdbuf.take (c.rdbuf.length - n) }
                  results := s.results ++ [(r, res)] })))

/-- Events with nothing to act on (60_exceptions.md R354) change no state: `tx_flushed` outside DR_FLUSH,
`timeout(r)` where `r` has no read, `cancel(r)` where nothing of `r` is pending. -/
def Obligations.EventsWithNothingToActOn : Prop :=
  ∀ (s : State) (r : Nat),
    (s.drs ≠ .flush → s.act .txFlushed = .next s) ∧
    (s.rx.owner ≠ some r ∨ s.rx.state = .idle → s.act (.timeout r) = .next s) ∧
    (r ∉ s.waiters → s.drOwner ≠ some r ∨ s.drs = .idle → s.rx.owner ≠ some r ∨ s.rx.state = .idle →
      s.exsOf r = .idle → s.act (.cancel r) = .next s)

/-! ### The register command encoder -/

/-- READ_SINGLE and READ_MULTIPLE (44_register_encoder.md R232 to R239), as sub-frames and as
RQ_READ_SINGLE and RQ_READ_MULTIPLE. -/
def Obligations.ReadRequestsAppend : Prop :=
  ∀ (reg count : U32) (s : State), s.CanIssue →
    exec (.readSingleInt8 reg) s = .next (s.requested ([0x18] ++ vuEnc reg)) ∧
    exec (.readSingleInt16 reg) s = .next (s.requested ([0x19] ++ vuEnc reg)) ∧
    exec (.readSingleInt32 reg) s = .next (s.requested ([0x1A] ++ vuEnc reg)) ∧
    exec (.readSingleFloat reg) s = .next (s.requested ([0x1B] ++ vuEnc reg)) ∧
    exec (.readMultipleInt8 reg count) s =
      .next (s.requested ([0x1C] ++ vuEnc reg ++ vuEnc count)) ∧
    exec (.readMultipleInt16 reg count) s =
      .next (s.requested ([0x1D] ++ vuEnc reg ++ vuEnc count)) ∧
    exec (.readMultipleInt32 reg count) s =
      .next (s.requested ([0x1E] ++ vuEnc reg ++ vuEnc count)) ∧
    exec (.readMultipleFloat reg count) s =
      .next (s.requested ([0x1F] ++ vuEnc reg ++ vuEnc count)) ∧
    exec (.rqReadSingle reg .int8) s = .next (s.requested ([0x18] ++ vuEnc reg)) ∧
    exec (.rqReadSingle reg .int16) s = .next (s.requested ([0x19] ++ vuEnc reg)) ∧
    exec (.rqReadSingle reg .int32) s = .next (s.requested ([0x1A] ++ vuEnc reg)) ∧
    exec (.rqReadSingle reg .float) s = .next (s.requested ([0x1B] ++ vuEnc reg)) ∧
    exec (.rqReadMultiple reg count .int8) s =
      .next (s.requested ([0x1C] ++ vuEnc reg ++ vuEnc count)) ∧
    exec (.rqReadMultiple reg count .int16) s =
      .next (s.requested ([0x1D] ++ vuEnc reg ++ vuEnc count)) ∧
    exec (.rqReadMultiple reg count .int32) s =
      .next (s.requested ([0x1E] ++ vuEnc reg ++ vuEnc count)) ∧
    exec (.rqReadMultiple reg count .float) s =
      .next (s.requested ([0x1F] ++ vuEnc reg ++ vuEnc count)) ∧
    vuEnc 0 = [0x00] ∧ vuEnc 0xFFFFFFFF = [0xFF, 0xFF, 0xFF, 0xFF, 0x0F] ∧
    ∀ bs, SameBytesBut (.reqbuf s.issuer) s (s.requested bs)

/-- WRITE_SINGLE (44_register_encoder.md R240 to R243, R250), as a sub-frame and as RQ_WRITE_SINGLE: the
value's bytes lowest first. -/
def Obligations.WriteSingleAppends : Prop :=
  ∀ (reg : U32) (s : State), s.CanIssue →
    (∀ b : BitVec 8,
      exec (.writeSingleInt8 reg b) s = .next (s.requested ([0x10] ++ vuEnc reg ++ [b]))) ∧
    (∀ b : BitVec 16,
      exec (.writeSingleInt16 reg b) s =
        .next (s.requested ([0x11] ++ vuEnc reg ++ [b.extractLsb' 0 8, b.extractLsb' 8 8]))) ∧
    (∀ b : BitVec 32,
      exec (.writeSingleInt32 reg b) s =
        .next (s.requested ([0x12] ++ vuEnc reg ++
          [b.extractLsb' 0 8, b.extractLsb' 8 8, b.extractLsb' 16 8, b.extractLsb' 24 8]))) ∧
    (∀ b : BitVec 32,
      exec (.writeSingleFloat reg b) s =
        .next (s.requested ([0x13] ++ vuEnc reg ++
          [b.extractLsb' 0 8, b.extractLsb' 8 8, b.extractLsb' 16 8, b.extractLsb' 24 8]))) ∧
    (∀ b : BitVec 8,
      exec (.rqWriteSingle reg (.i8 b)) s = .next (s.requested ([0x10] ++ vuEnc reg ++ [b]))) ∧
    (∀ b : BitVec 16,
      exec (.rqWriteSingle reg (.i16 b)) s =
        .next (s.requested ([0x11] ++ vuEnc reg ++ [b.extractLsb' 0 8, b.extractLsb' 8 8]))) ∧
    (∀ b : BitVec 32,
      exec (.rqWriteSingle reg (.i32 b)) s =
        .next (s.requested ([0x12] ++ vuEnc reg ++
          [b.extractLsb' 0 8, b.extractLsb' 8 8, b.extractLsb' 16 8, b.extractLsb' 24 8]))) ∧
    (∀ b : BitVec 32,
      exec (.rqWriteSingle reg (.f32 b)) s =
        .next (s.requested ([0x13] ++ vuEnc reg ++
          [b.extractLsb' 0 8, b.extractLsb' 8 8, b.extractLsb' 16 8, b.extractLsb' 24 8]))) ∧
    ∀ bs, SameBytesBut (.reqbuf s.issuer) s (s.requested bs)

/-- WRITE_MULTIPLE of at least one value (44_register_encoder.md R244 to R247), as a sub-frame and, for
values of one type, as RQ_WRITE_MULTIPLE. A count of 2^32 or more is not encodable (40_varuint.md
R132). -/
def Obligations.WriteMultipleAppends : Prop :=
  ∀ (start : U32) (s : State), s.CanIssue →
    (∀ vals : List (BitVec 8), vals ≠ [] → vals.length < 2 ^ 32 →
      exec (.writeMultipleInt8 start vals) s =
        .next (s.requested
          ([0x14] ++ vuEnc start ++ vuEnc (BitVec.ofNat 32 vals.length) ++ vals))) ∧
    (∀ vals : List (BitVec 16), vals ≠ [] → vals.length < 2 ^ 32 →
      exec (.writeMultipleInt16 start vals) s =
        .next (s.requested
          ([0x15] ++ vuEnc start ++ vuEnc (BitVec.ofNat 32 vals.length) ++
            vals.flatMap fun b => [b.extractLsb' 0 8, b.extractLsb' 8 8]))) ∧
    (∀ vals : List (BitVec 32), vals ≠ [] → vals.length < 2 ^ 32 →
      exec (.writeMultipleInt32 start vals) s =
        .next (s.requested
          ([0x16] ++ vuEnc start ++ vuEnc (BitVec.ofNat 32 vals.length) ++
            vals.flatMap fun b =>
              [b.extractLsb' 0 8, b.extractLsb' 8 8, b.extractLsb' 16 8, b.extractLsb' 24 8]))) ∧
    (∀ vals : List (BitVec 32), vals ≠ [] → vals.length < 2 ^ 32 →
      exec (.writeMultipleFloat start vals) s =
        .next (s.requested
          ([0x17] ++ vuEnc start ++ vuEnc (BitVec.ofNat 32 vals.length) ++
            vals.flatMap fun b =>
              [b.extractLsb' 0 8, b.extractLsb' 8 8, b.extractLsb' 16 8, b.extractLsb' 24 8]))) ∧
    (∀ (t : TypeTag) (vals : List TV), vals ≠ [] → vals.length < 2 ^ 32 →
      (∀ v ∈ vals, v.tag = t) →
      exec (.rqWriteMultiple start vals) s =
        .next (s.requested
          ([0x14 + t.num.setWidth 8] ++ vuEnc start ++ vuEnc (BitVec.ofNat 32 vals.length) ++
            vals.flatMap TV.bytes))) ∧
    ∀ bs, SameBytesBut (.reqbuf s.issuer) s (s.requested bs)

/-- The preconditions of WRITE_MULTIPLE (44_register_encoder.md R251, R252): no value raises
F_EMPTY_WRITE, values of two types raise F_MIXED_TYPES; nothing is appended. The rules speak of
RQ_WRITE_MULTIPLE; that the four WRITE_MULTIPLE rows without a value raise F_EMPTY_WRITE too is the model's
reading (log 34). -/
def Obligations.WriteMultipleFaults : Prop :=
  ∀ (start : U32) (s : State), s.CanIssue →
    exec (.rqWriteMultiple start []) s = .next (s.faulted .emptyWrite 6) ∧
    exec (.writeMultipleInt8 start []) s = .next (s.faulted .emptyWrite 6) ∧
    exec (.writeMultipleInt16 start []) s = .next (s.faulted .emptyWrite 6) ∧
    exec (.writeMultipleInt32 start []) s = .next (s.faulted .emptyWrite 6) ∧
    exec (.writeMultipleFloat start []) s = .next (s.faulted .emptyWrite 6) ∧
    (∀ vals : List TV, (∃ v ∈ vals, ∃ w ∈ vals, v.tag ≠ w.tag) →
      exec (.rqWriteMultiple start vals) s = .next (s.faulted .mixedTypes 5)) ∧
    SameBytes s (s.faulted .emptyWrite 6) ∧ SameBytes s (s.faulted .mixedTypes 5)

/-- RQ_CLEAR (44_register_encoder.md R231). -/
def Obligations.RqClearEmpties : Prop :=
  ∀ s : State, s.CanIssue →
    ∃ t, exec .rqClear s = .next t ∧
      t = (s.issuerWith fun c => { c with reqbuf := [] }).answered .done ∧
      SameBytesBut (.reqbuf s.issuer) s t

/-! ### The reply decoder -/

/-- REPLY_SINGLE, WRITE_ERROR and READ_ERROR (45_register_reply_decoder.md R269 to R273, R280, R281): one
entry goes into REPLY, replacing what stood under its key; every other entry and all other state stay. That
a sub-frame runs by itself, on REPLY as it stands and without a result, is the model's choice (log 6). -/
def Obligations.ReplyEntryIsInserted : Prop :=
  ∀ (reg code : VuValue) (b8 : BitVec 8) (b16 : BitVec 16) (b32 : BitVec 32) (s : State),
    s.CanIssue →
    ∀ i e, (i, e) ∈
      [(Instr.replySingleInt8 reg b8, Entry.val (.i8 b8)),
       (Instr.replySingleInt16 reg b16, Entry.val (.i16 b16)),
       (Instr.replySingleInt32 reg b32, Entry.val (.i32 b32)),
       (Instr.replySingleFloat reg b32, Entry.val (.f32 b32)),
       (Instr.writeError reg code, Entry.err code),
       (Instr.readError reg code, Entry.err code)] →
      ∃ t, exec i s = .next t ∧ t = { s with reply := t.reply } ∧
        Entered reg.toNat e s.reply t.reply ∧ SameBytes s t

/-- REPLY_MULTIPLE (45_register_reply_decoder.md R274 to R279): value `i` goes under key `start + i`; with
fewer values than the count the parse stops TRUNCATED and the values read whole stay. That it runs by
itself, and returns nothing when it is whole, is the model's choice (log 6). -/
def Obligations.ReplyMultipleIsInserted : Prop :=
  ∀ (start count : VuValue) (v8 : List (BitVec 8)) (v16 : List (BitVec 16)) (v32 : List (BitVec 32))
    (s : State), s.CanIssue →
    ∀ i vals, (i, vals) ∈
      [(Instr.replyMultipleInt8 start count v8, v8.map TV.i8),
       (Instr.replyMultipleInt16 start count v16, v16.map TV.i16),
       (Instr.replyMultipleInt32 start count v32, v32.map TV.i32),
       (Instr.replyMultipleFloat start count v32, v32.map TV.f32)] →
      vals.length ≤ count.toNat →
      ∃ t, exec i s = .next t ∧ MultipleEntered start.toNat vals s.reply t.reply ∧ SameBytes s t ∧
        (vals.length = count.toNat → t = { s with reply := t.reply }) ∧
        (vals.length < count.toNat →
          t = { s with
                reply := t.reply, lastStop := .truncated
                events := s.events ++ [Event.parseStop .truncated] }.answered
                (.parsed t.reply .truncated))

/-- PARSE_REGISTER_REPLY (45_register_reply_decoder.md R265 to R284) on whole reply sub-frames laid end to
end and a tail: REPLY is made from the empty map by the entries in order, CUR stands after what was read,
and the tail decides the end: nothing left, an unrecognized discriminator, a discriminator cut short, or an
overlong varuint, which is fatal. Ends inside a sub-frame are ParseStopsInsideASubframe's. A payload of more
than 255 bytes, which no port hands over, runs alike (log 35). -/
def Obligations.ParseIsTheFoldOfItsSubframes : Prop :=
  ∀ (is : List Instr) (tail : Bytes) (s : State), s.CanIssue →
    (∀ i ∈ is, isRegisterReply i = true ∧ i.wf = true ∧ replyShort i = false) →
    let whole := is.flatMap encode
    let m := is.foldl (fun m i => ReplyMap.insertAll (replyEntries i) m) []
    let parsed : Nat → State := fun cur =>
      { s with pay := whole ++ tail, cur := cur, vu := (vuDec tail 0).2, reply := m }
    (tail = [] →
      exec (.parseRegisterReply (whole ++ tail)) s =
        .next ({ parsed whole.length with lastStop := .exhausted }.answered
          (.parsed m .exhausted))) ∧
    (∀ id n, (vuDec tail 0).1 = VuResult.value id n → ¬ (0x20 ≤ id.toNat ∧ id.toNat ≤ 0x29) →
      exec (.parseRegisterReply (whole ++ tail)) s =
        .next ({ parsed (whole.length + n) with
          lastStop := .unknownId, events := s.events ++ [Event.parseStop .unknownId] }.answered
          (.parsed m .unknownId))) ∧
    ((vuDec tail 0).1 = VuResult.truncated →
      exec (.parseRegisterReply (whole ++ tail)) s =
        .next ({ parsed whole.length with
          lastStop := .truncated, events := s.events ++ [Event.parseStop .truncated] }.answered
          (.parsed m .truncated))) ∧
    ((vuDec tail 0).1 = VuResult.overlong →
      exec (.parseRegisterReply (whole ++ tail)) s =
        .next ((parsed whole.length).faulted .varuintOverlong 1)) ∧
    (∀ t, exec (.parseRegisterReply (whole ++ tail)) s = .next t → SameBytesBut .pay s t)

/-- PARSE_REGISTER_REPLY that ends inside a recognized sub-frame (45_register_reply_decoder.md R267, R278,
R284), after whole ones: a field cut short stops TRUNCATED with the map as it was, a REPLY_MULTIPLE cut
short in its values keeps the values that are there whole, and an overlong index, count or code is fatal.
`n`, `k` and `j` are the bytes of the discriminator, the index and the count. -/
def Obligations.ParseStopsInsideASubframe : Prop :=
  ∀ (is : List Instr) (tail : Bytes) (s : State) (id : VuValue) (n : Nat), s.CanIssue →
    (∀ i ∈ is, isRegisterReply i = true ∧ i.wf = true ∧ replyShort i = false) →
    (vuDec tail 0).1 = VuResult.value id n → 0x20 ≤ id.toNat → id.toNat ≤ 0x29 →
    let whole := is.flatMap encode
    let m := is.foldl (fun m i => ReplyMap.insertAll (replyEntries i) m) []
    let parsed : Nat → VuRegs → ReplyMap → State := fun cur vu m' =>
      { s with pay := whole ++ tail, cur := whole.length + cur, vu := vu, reply := m' }
    let got := exec (.parseRegisterReply (whole ++ tail)) s
    let stops : Nat → VuRegs → ReplyMap → Prop := fun cur vu m' =>
      got = .next ({ parsed cur vu m' with
        lastStop := .truncated, events := s.events ++ [Event.parseStop .truncated] }.answered
        (.parsed m' .truncated))
    let faults : Nat → VuRegs → Prop := fun cur vu =>
      got = .next ((parsed cur vu m).faulted .varuintOverlong 1)
    let index := vuDec tail n
    (index.1 = VuResult.noData ∨ index.1 = VuResult.truncated → stops n index.2 m) ∧
    (index.1 = VuResult.overlong → faults n index.2) ∧
    ∀ start k, index.1 = VuResult.value start k →
      (∀ ty : TypeTag, id.toNat = 0x20 + ty.num.toNat → tail.length < n + k + ty.width →
        stops (n + k) index.2 m) ∧
      (0x24 ≤ id.toNat →
        let second := vuDec tail (n + k)
        (second.1 = VuResult.noData ∨ second.1 = VuResult.truncated → stops (n + k) second.2 m) ∧
        (second.1 = VuResult.overlong → faults (n + k) second.2) ∧
        ∀ count j, second.1 = VuResult.value count j →
          ∀ ty : TypeTag, id.toNat = 0x24 + ty.num.toNat →
            tail.length < n + k + j + count.toNat * ty.width →
            let data := tail.drop (n + k + j)
            let vals := (List.range (data.length / ty.width)).map fun i =>
              TV.ofBytes ty ((data.drop (i * ty.width)).take ty.width)
            stops (n + k + j + vals.length * ty.width) second.2
              (ReplyMap.insertAll (multipleEntries start.toNat vals) m))

/-! ### Streams -/

/-- STREAM_C2S (46_stream_subframes.md R300): the encoder's bytes; no state written. -/
def Obligations.StreamC2sEncodes : Prop :=
  ∀ (channel : U32) (data : Bytes) (s : State), s.CanIssue → data.length < 2 ^ 32 →
    ∃ t, exec (.streamC2s channel data) s = .next t ∧ SameBytes s t ∧
      t = s.answered
        (.bytes ([0x40] ++ vuEnc channel ++ vuEnc (BitVec.ofNat 32 data.length) ++ data))

/-- Stream reply acceptance (46_stream_subframes.md R303): data on the requester's own channel go to the
end of its RDBUF; on another channel nothing is appended and nothing reported. In the block this acceptance
is a step of STREAM_POLL, which reports Appended(n); that the sub-frame runs by itself, without a result,
is the model's choice (log 6). -/
def Obligations.StreamS2cIsAccepted : Prop :=
  ∀ (channel : VuValue) (data : Bytes) (s : State) (c : Client), s.CanIssue →
    s.clients[s.issuer]? = some c →
    (channel.toNat = c.channel.toNat →
      ∃ t, exec (.streamS2c channel data) s = .next t ∧
        t = s.issuerWith (fun c => { c with rdbuf := c.rdbuf ++ data }) ∧
        SameBytesBut (.rdbuf s.issuer) s t) ∧
    (channel.toNat ≠ c.channel.toNat → exec (.streamS2c channel data) s = .next s)

/-- STREAM_WRITE and STREAM_TAKE (46_stream_subframes.md R305, R306): the data go to the end of WRBUF; the
oldest `size` bytes of RDBUF leave it as the result, or NotYet and nothing is removed. -/
def Obligations.StreamBuffers : Prop :=
  ∀ (data : Bytes) (size : Nat) (s : State) (c : Client), s.CanIssue →
    s.clients[s.issuer]? = some c →
    (∃ t, exec (.streamWrite data) s = .next t ∧
      t = (s.issuerWith fun c => { c with wrbuf := c.wrbuf ++ data }).answered .done ∧
      SameBytesBut (.wrbuf s.issuer) s t) ∧
    (c.rdbuf.length < size → exec (.streamTake size) s = .next (s.answered .notYet)) ∧
    (size ≤ c.rdbuf.length →
      ∃ t out, exec (.streamTake size) s = .next t ∧
        t = (s.issuerWith fun c => { c with rdbuf := c.rdbuf.drop size }).answered (.bytes out) ∧
        out.length = size ∧ c.rdbuf = out ++ c.rdbuf.drop size ∧
        SameBytesBut (.rdbuf s.issuer) s t)

/-! ### Exchanges -/

/-- The exchange commands (47_exchange.md R315, R317 to R320, R322) ask for the token and latch
themselves in EX_OP, which holds the command during the wait as well (the model's reading of R316 and
10_state.md R38, log 33); REGISTER_QUERY and REGISTER_WRITE look at REQBUF first, STREAM_DRAIN is Done at
once with nothing to send (the model's reading, log 29: also for a token holder); a requester that holds
the token raises F_LOCK_MISUSE. -/
def Obligations.ExchangeAsksForTheToken : Prop :=
  ∀ (s : State) (c : Client), s.CanIssue → s.clients[s.issuer]? = some c →
    (∀ i op, (i, op) ∈
      [(Instr.registerQuery, ExOp.registerQuery), (Instr.registerWrite, ExOp.registerWrite),
       (Instr.streamDrain, ExOp.streamDrain), (Instr.streamPoll, ExOp.streamPoll)] →
      (op = .registerQuery ∨ op = .registerWrite → c.reqbuf.length ≤ 255) →
      (op = .streamDrain → c.wrbuf ≠ []) →
      (s.token ≠ .held s.issuer →
        ∃ t, exec i s = .next t ∧ SameBytes s t ∧
          (∀ q, q ∈ t.waiters ↔ q = s.issuer ∨ q ∈ s.waiters) ∧
          t = { s.issuerWith (fun c => { c with exOp := some op }) with waiters := t.waiters }) ∧
      (s.token = .held s.issuer → exec i s = .next (s.faulted .lockMisuse 4))) ∧
    (256 ≤ c.reqbuf.length →
      exec .registerQuery s = .next (s.faulted .payloadTooLong 2) ∧
      exec .registerWrite s = .next (s.faulted .payloadTooLong 2)) ∧
    (c.wrbuf = [] → exec .streamDrain s = .next (s.answered .done))

/-- A WHOLE REGISTER_WRITE (47_exchange.md R319), the token free and no other agent between its steps:
REQBUF goes out as one frame with rr = 0 after what was in TXBUF, the token is free again, the result is
Done. 0x31 is the command's label (30_encoding.md R120). -/
def Obligations.RegisterWriteRuns : Prop :=
  ∀ (s : State) (c : Client), s.CanIssue → s.LinkInv → s.token = .free →
    s.clients[s.issuer]? = some c → c.reqbuf.length ≤ 255 →
    let r := s.issuer
    let f := sentFrame false s.sourceId c.destId c.reqbuf
    s.acts [.command r [0x31], .grant r, .exchange r, .exchange r, .txWrite, .txFlushed,
        .exchange r] =
      .next { s with
        clients := s.clients.modify r fun c => { c.atRest with reqbuf := [] }
        txbuf := [], wire := s.wire ++ s.txbuf ++ f
        crcAcc := frameCrc (0#1 ++ s.sourceId) (0#1 ++ c.destId) c.reqbuf
        results := s.results ++ [(r, .done)] }

/-- A WHOLE STREAM_DRAIN (47_exchange.md R320) with bytes in WRBUF: the first 100 at most go out in one
STREAM_C2S sub-frame in one frame with rr = 0, the rest stay. 0x39 is the command's label. -/
def Obligations.StreamDrainRuns : Prop :=
  ∀ (s : State) (c : Client), s.CanIssue → s.LinkInv → s.token = .free →
    s.clients[s.issuer]? = some c → c.wrbuf ≠ [] →
    let r := s.issuer
    let chunk := c.wrbuf.take 100
    let p := [0x40] ++ vuEnc c.channel ++ vuEnc (BitVec.ofNat 32 chunk.length) ++ chunk
    let f := sentFrame false s.sourceId c.destId p
    p.length ≤ 107 ∧
    s.acts [.command r [0x39], .grant r, .exchange r, .exchange r, .txWrite, .txFlushed,
        .exchange r] =
      .next { s with
        clients := s.clients.modify r fun c => { c.atRest with wrbuf := c.wrbuf.drop 100 }
        txbuf := [], wire := s.wire ++ s.txbuf ++ f
        crcAcc := frameCrc (0#1 ++ s.sourceId) (0#1 ++ c.destId) p
        results := s.results ++ [(r, .done)] }

/-- A WHOLE REGISTER_QUERY (47_exchange.md R318) answered by a frame from DEST_ID, delivered whole (log 7),
with a right CRC or one that is not enforced, whose payload is whole reply sub-frames and a tail that stops
the parse, between two sub-frames or inside one: the request goes out with rr = 1 and REQBUF is used up; the
frame brings EX_DECODED with the token still held; the next step releases it and returns the map, the stop
reason and crc_ok. A cancel before that step ends the query with NoReply(Cancelled) (R316; log 11). -/
def Obligations.RegisterQueryRuns : Prop :=
  ∀ (s : State) (c : Client) (src dst : Byte) (is : List Instr) (tail : Bytes) (why : StopReason)
    (es : List (Nat × Entry)) (crc : BitVec 16), s.CanIssue → s.LinkInv →
    s.token = .free → s.clients[s.issuer]? = some c → c.reqbuf.length ≤ 255 → s.rxq = [] →
    src.setWidth 7 = c.destId →
    (∀ i ∈ is, isRegisterReply i = true ∧ i.wf = true ∧ replyShort i = false) →
    TailStops tail why es →
    (is.flatMap encode ++ tail).length ≤ 255 →
    let r := s.issuer
    let m := ReplyMap.insertAll es
      (is.foldl (fun m i => ReplyMap.insertAll (replyEntries i) m) [])
    let p := is.flatMap encode ++ tail
    let ok := decide (frameCrc src dst p = crc)
    (ok = true ∨ s.crcEnforce = false) →
    ∃ u t v, s.acts [.command r [0x30], .grant r, .exchange r, .exchange r, .txWrite, .txFlushed,
        .frame (wireFrame src dst p crc)] = .next u ∧
      u.exsOf r = .decoded ∧ u.token = .held r ∧ u.results = s.results ∧ u.rx.state = .idle ∧
      u.act (.exchange r) = .next t ∧
      t.results = s.results ++ [(r, .reply m why ok)] ∧ t.reply = m ∧
      t.lastStop = why ∧ t.crcOk = ok ∧ t.fatal = false ∧
      t.events = s.events ++ (if ok then [] else [Event.crcBad]) ++
        (if why = .exhausted then [] else [Event.parseStop why]) ∧
      t.token = .free ∧ t.waiters = s.waiters ∧ t.rx.state = .idle ∧ t.drs = .idle ∧
      t.clients = (s.clients.modify r fun c => { c.atRest with reqbuf := [] }) ∧
      t.wire = s.wire ++ s.txbuf ++ sentFrame true s.sourceId c.destId c.reqbuf ∧
      t.txbuf = [] ∧ t.rxq = [] ∧
      u.act (.cancel r) = .next v ∧
      v = { t with results := s.results ++ [(r, .noReply .cancelled)] }

/-- A REGISTER_QUERY that no reply answers (47_exchange.md R318, R321; 70_reset_and_hazards.md R402):
`timeout(r)` ends it with NoReply(Timeout), the token is free and the request is used up. -/
def Obligations.UnansweredQueryTimesOut : Prop :=
  ∀ (s : State) (c : Client), s.CanIssue → s.LinkInv → s.token = .free →
    s.clients[s.issuer]? = some c → c.reqbuf.length ≤ 255 →
    let r := s.issuer
    ∃ t, s.acts [.command r [0x30], .grant r, .exchange r, .exchange r, .txWrite, .txFlushed,
        .timeout r] = .next t ∧
      t.results = s.results ++ [(r, .noReply .timeout)] ∧ t.token = .free ∧ t.fatal = false ∧
      t.rx.state = .idle ∧ t.rxq = s.rxq ∧ t.reply = s.reply ∧
      t.clients = (s.clients.modify r fun c => { c.atRest with reqbuf := [] }) ∧
      t.wire = s.wire ++ s.txbuf ++ sentFrame true s.sourceId c.destId c.reqbuf

/-- A WHOLE STREAM_POLL (47_exchange.md R322, R331; 46_stream_subframes.md R301 to R304) answered by any
frame from DEST_ID without an overlong field, delivered whole (log 7), with a right CRC or one that is not
enforced: the poll goes out; the frame brings EX_DECODED; the data of a whole STREAM_S2C on the requester's
channel are then at the end of RDBUF, and nothing is for any other reply: another channel, another first
sub-frame, a field or the data cut short, no bytes at all. The next step releases the token and returns the
count. A cancel before that step ends the poll with Cancelled and RDBUF as it was (R316, R324; log 11). -/
def Obligations.StreamPollRuns : Prop :=
  (∀ (channel : VuValue) (data tail : Bytes), data.length ≤ 255 →
    StreamAccepts (encode (.streamS2c channel data) ++ tail) channel data) ∧
  ∀ (s : State) (c : Client) (src dst : Byte) (p appended : Bytes) (crc : BitVec 16),
    s.CanIssue → s.LinkInv → s.token = .free → s.clients[s.issuer]? = some c → s.rxq = [] →
    src.setWidth 7 = c.destId → p.length ≤ 255 →
    (StreamRejects p ∧ appended = [] ∨
      ∃ channel data, StreamAccepts p channel data ∧
        appended = if channel.toNat = c.channel.toNat then data else []) →
    let r := s.issuer
    let ok := decide (frameCrc src dst p = crc)
    (ok = true ∨ s.crcEnforce = false) →
    ∃ u t v, s.acts [.command r [0x3A], .grant r, .exchange r, .exchange r, .txWrite, .txFlushed,
        .frame (wireFrame src dst p crc)] = .next u ∧
      u.exsOf r = .decoded ∧ u.token = .held r ∧ u.results = s.results ∧ u.rx.state = .idle ∧
      (∃ d, u.clients[r]? = some d ∧ d.rdbuf = c.rdbuf ++ appended) ∧
      u.act (.exchange r) = .next t ∧
      t.results = s.results ++ [(r, .appended appended.length)] ∧
      t.events = s.events ++ (if ok then [] else [Event.crcBad]) ∧ t.crcOk = ok ∧
      t.fatal = false ∧ t.token = .free ∧ t.waiters = s.waiters ∧ t.rx.state = .idle ∧ t.drs = .idle ∧
      t.clients =
        (s.clients.modify r fun c => { c.atRest with rdbuf := c.rdbuf ++ appended }) ∧
      t.wire = s.wire ++ s.txbuf ++
        sentFrame true s.sourceId c.destId ([0x40] ++ vuEnc c.channel ++ [0x00]) ∧
      t.txbuf = [] ∧ t.rxq = [] ∧ t.reply = s.reply ∧ t.lastStop = s.lastStop ∧
      u.act (.cancel r) = .next v ∧
      v = { t with
            clients := s.clients.modify r Client.atRest
            results := s.results ++ [(r, .cancelled)] }

/-- A stray frame inside an exchange (47_exchange.md R321, 43_link_manager.md R207): a whole frame from
another source is consumed, no result is returned, and the read stands at a frame start again, with the
token and the filter kept. -/
def Obligations.StrayFrameIsSkipped : Prop :=
  ∀ (s : State) (r : Nat) (c : Client) (op : ExOp) (src dst : Byte) (payload rest : Bytes)
    (crc : BitVec 16), s.ReadStarted r → s.clients[r]? = some c → c.exOp = some op →
    s.rx.filter = some c.destId → src.setWidth 7 ≠ c.destId → payload.length ≤ 255 →
    s.rxq = wireFrame src dst payload crc ++ rest →
    (s.crcEnforce = false ∨ frameCrc src dst payload = crc) →
    let t := s.rxBytes (7 + payload.length)
    t.ReadStarted r ∧ t.rx.filter = some c.destId ∧ t.rxq = rest ∧ t.results = s.results ∧
      t.token = s.token ∧ t.clients = s.clients

/-- The overlong varuint in a reply (47_exchange.md R325; 45_register_reply_decoder.md R284;
46_stream_subframes.md R302; 70_reset_and_hazards.md R399): a REGISTER_QUERY whose reply has five bytes
with bit 7 set where a discriminator, an index, a count or an error code stands, or a STREAM_POLL whose
reply has them in one of the three fields of its first sub-frame, makes the block fatal with the token held
and EXS left in EX_DECODED, also when the frame's CRC is wrong and not enforced. -/
def Obligations.OverlongReplyIsFatal : Prop :=
  ∀ (s : State) (r : Nat) (c : Client) (src dst : Byte) (payload rest : Bytes) (crc : BitVec 16),
    s.LinkInv → s.ReadStarted r → s.clients[r]? = some c → s.rx.filter = some c.destId →
    src.setWidth 7 = c.destId → payload.length ≤ 255 →
    (c.exOp = some .registerQuery ∧
        (∃ (is : List Instr) (tail : Bytes), payload = is.flatMap encode ++ tail ∧
          (∀ i ∈ is, isRegisterReply i = true ∧ i.wf = true ∧ replyShort i = false) ∧
          ReplyFieldOverlong tail) ∨
      c.exOp = some .streamPoll ∧ StreamFieldOverlong payload) →
    s.rxq = wireFrame src dst payload crc ++ rest →
    let ok := decide (frameCrc src dst payload = crc)
    (ok = true ∨ s.crcEnforce = false) →
    let t := s.rxBytes (7 + payload.length)
    t.fatal = true ∧ t.cause = 1 ∧ t.crcOk = ok ∧
      t.events = s.events ++ (if ok then [] else [Event.crcBad]) ++ [.fatal .varuintOverlong] ∧
      t.results = s.results ++ [(r, .fatal .varuintOverlong)] ∧ t.token = .held r ∧
      t.exsOf r = .decoded ∧ t.lastStop = s.lastStop ∧ t.rxq = rest ∧
      t.clients = s.clients.modify r fun c => { c with exs := .decoded }

/-- The exchange's own step (47_exchange.md R316 to R320, R322, R326) from any state of the link: in EX_TOKEN
it writes the whole frame behind TXBUF and uses up what the frame carries, then in a step of its own (log
10) swaps TXBUF out for the drain; in EX_SENT and EX_DECODED it releases the token and returns the result
(log 19); in the waits, in a drain and with FATAL = 1 it does nothing. And the token is always given back
(R317): any step that takes a requester's exchange back to EX_IDLE leaves the token free. -/
def Obligations.ExchangeEndFreesTheToken : Prop :=
  (∀ (s t : State) (r : Nat), s.LinkInv → s.exsOf r ≠ .idle → step s = .next t →
    t.exsOf r = .idle → t.token = .free) ∧
  (∀ (s : State) (r : Nat) (c : Client) (op : ExOp), s.LinkInv → s.fatal = false →
    s.clients[r]? = some c → c.exOp = some op →
    let p : Bytes :=
      match op with
      | .registerQuery => c.reqbuf
      | .registerWrite => c.reqbuf
      | .streamDrain =>
        [0x40] ++ vuEnc c.channel ++ vuEnc (BitVec.ofNat 32 (c.wrbuf.take 100).length) ++
          c.wrbuf.take 100
      | .streamPoll => [0x40] ++ vuEnc c.channel ++ [0x00]
    let rr := decide (op = .registerQuery ∨ op = .streamPoll)
    let ended : Result → State := fun res =>
      { s with
        token := .free, clients := s.clients.modify r Client.atRest
        results := s.results ++ [(r, res)] }
    (c.exs = .token → c.written = false →
      p.length ≤ 255 ∧
      s.act (.exchange r) = .next { s with
        txbuf := s.txbuf ++ sentFrame rr s.sourceId c.destId p
        crcAcc := frameCrc (BitVec.ofBool rr ++ s.sourceId) (0#1 ++ c.destId) p
        clients := s.clients.modify r fun c =>
          { c with
            written := true
            reqbuf := if op = .registerQuery ∨ op = .registerWrite then [] else c.reqbuf
            wrbuf := if op = .streamDrain then c.wrbuf.drop 100 else c.wrbuf } }) ∧
    (c.exs = .token → c.written = true → s.drs = .idle →
      s.act (.exchange r) = .next { s with
        txflight := s.txbuf, txbuf := [], drOwner := some r, drs := .write }) ∧
    (c.exs = .sent → s.act (.exchange r) = .next (ended .done)) ∧
    (c.exs = .decoded →
      ∃ res, c.outcome = some res ∧ s.act (.exchange r) = .next (ended res))) ∧
  (∀ (s : State) (r : Nat), s.LinkInv →
    s.fatal = true ∨ s.drs ≠ .idle ∨ s.exsOf r = .idle ∨ s.exsOf r = .await →
    s.act (.exchange r) = .next s)

/-! ### The fatal state and reset -/

/-- Refusal when FATAL = 1 (60_exceptions.md R347): every command of an existing requester returns
Refused and changes nothing else; the engines, the grant and the other events do nothing; arriving bytes
still join RXQ; and whatever the stimulus but reset, every field but RXQ, the results and the model's
issuer field (log 2) stays as it was. In any state, a command or sub-frame of a requester whose last command
has not returned is refused (10_state.md R39; 93_implementation_defined.md U22; the model's reading, log
17), and so are bytes on a command port that are no command (30_encoding.md R121; log 15). -/
def Obligations.FatalRefusesEverything : Prop :=
  (∀ (i : Instr) (s : State), i.port ≠ .wire → s.issuer < s.clients.length → ¬ s.CanIssue →
    exec i s = .next (s.answered .refused)) ∧
  (∀ (s : State) (q : Nat) (bs : Bytes) (e : Reject), q < s.clients.length →
    decode .command bs = Except.error e →
    s.act (.command q bs) = .next ({ s with issuer := q }.answered .refused)) ∧
  ∀ s : State, s.fatal = true →
    (∀ i : Instr, i.port ≠ .wire → s.issuer < s.clients.length →
      exec i s = .next (s.answered .refused)) ∧
    s.act .txWrite = .next s ∧ s.act .rxByte = .next s ∧ s.act .txFlushed = .next s ∧
    (∀ r, s.act (.grant r) = .next s ∧ s.act (.exchange r) = .next s ∧
      s.act (.timeout r) = .next s ∧ s.act (.cancel r) = .next s) ∧
    (∀ b, s.act (.rxArrive b) = .next { s with rxq := s.rxq ++ [b] }) ∧
    (∀ (t : State) (st : Stimulus), st ≠ .reset → s.act st = .next t →
      (∃ w, t.rxq = s.rxq ++ w) ∧ (∃ l, t.results = s.results ++ l) ∧
      t = { s with rxq := t.rxq, results := t.results, issuer := t.issuer })

/-- The reset event (70_reset_and_hazards.md R380, R381) in any state: every piece of the block's state
goes to its reset value, the straps keep theirs. The histories and the issuer field are the model's own
(logs 2, 9); the schedule still to come is kept (log 1). -/
def Obligations.ResetClearsEverything : Prop :=
  ∀ s : State, ∃ t, s.act .reset = .next t ∧ t.straps = s.straps ∧
    t.rx = { state := .idle, magic := 0, src := 0, dst := 0, len := 0, payload := [], crc := 0,
             acc := 0xFFFF, cnt := 0, filter := none, owner := none } ∧
    t.crcAcc = 0xFFFF ∧ t.vu = ⟨0, 0, 0⟩ ∧ t.cur = 0 ∧ t.crcOk = false ∧ t.lastStop = .exhausted ∧
    t.txbuf = [] ∧ t.txflight = [] ∧ t.wire = [] ∧ t.rxq = [] ∧ t.pay = [] ∧ t.reply = [] ∧
    t.token = .free ∧ t.waiters = [] ∧ t.drs = .idle ∧ t.drOwner = none ∧
    t.fatal = false ∧ t.cause = 0 ∧ t.results = [] ∧ t.events = [] ∧
    ∀ c ∈ t.clients, c.reqbuf = [] ∧ c.wrbuf = [] ∧ c.rdbuf = [] ∧ c.exs = .idle ∧ c.exOp = none

/-- The machine after reset has the reset values of 70_reset_and_hazards.md R381. -/
def Obligations.ResetValues : Prop :=
  State.reset.rx.state = .idle ∧ State.reset.rx.magic = 0 ∧ State.reset.rx.src = 0 ∧
  State.reset.rx.dst = 0 ∧ State.reset.rx.len = 0 ∧ State.reset.rx.payload = [] ∧
  State.reset.rx.crc = 0 ∧ State.reset.rx.cnt = 0 ∧ State.reset.rx.filter = none ∧
  State.reset.rx.owner = none ∧ State.reset.crcAcc = 0xFFFF ∧ State.reset.vu = ⟨0, 0, 0⟩ ∧
  State.reset.cur = 0 ∧ State.reset.crcOk = false ∧ State.reset.lastStop = .exhausted ∧
  State.reset.txbuf = [] ∧ State.reset.txflight = [] ∧ State.reset.wire = [] ∧
  State.reset.rxq = [] ∧ State.reset.pay = [] ∧ State.reset.reply = [] ∧
  State.reset.token = .free ∧ State.reset.waiters = [] ∧ State.reset.drs = .idle ∧
  State.reset.drOwner = none ∧ State.reset.fatal = false ∧ State.reset.cause = 0 ∧
  State.reset.sourceId = Config.sourceId ∧ State.reset.crcEnforce = Config.crcEnforce ∧
  State.reset.resyncWindow = Config.resyncWindow ∧
  State.reset.clients.length = Config.moreRequesters + 1 ∧
  ∀ r < State.reset.clients.length,
    ∃ c, State.reset.clients[r]? = some c ∧ c.destId = Config.destId r ∧
      c.channel = Config.channel r ∧ c.reqbuf = [] ∧ c.wrbuf = [] ∧ c.rdbuf = [] ∧
      c.exs = .idle ∧ c.exOp = none

/-! ### Invariants of the whole machine -/

/-- No step writes a strap (10_state.md R31, "No command writes any of them."; 70_reset_and_hazards.md
R380). -/
def Obligations.StrapsNeverChange : Prop :=
  ∀ s t : State, step s = .next t → t.straps = s.straps

/-- A step on behalf of requester `q` touches no register or buffer of another requester and returns
results to `q` only (60_exceptions.md R363, 10_state.md R39). -/
def Obligations.RequestersAreSeparate : Prop :=
  ∀ (s t : State) (q : Nat) (st : Stimulus),
    (∃ bs, st = .command q bs ∨ st = .subframe q bs) ∨ st = .grant q ∨ st = .exchange q ∨
      st = .timeout q ∨ st = .cancel q →
    s.act st = .next t →
    (∀ r, r ≠ q → t.clients[r]? = s.clients[r]?) ∧
    (∃ l, t.results = s.results ++ l ∧ ∀ p ∈ l, p.1 = q)

/-- EVERY STEP KEEPS the link arbiter consistent: one holder, who alone drains or reads, never both; the
exchange states agree with the token (43_link_manager.md R190 to R210; 47_exchange.md R315 to R325). -/
def Obligations.LinkInvariantIsKept : Prop :=
  ∀ s t : State, s.LinkInv → step s = .next t → t.LinkInv

/-- EVERY STEP KEEPS the staging registers, the parse cursor and the varuint scratch in their ranges
(10_state.md R24, R25, R27, R28, R36; 45_register_reply_decoder.md R266; VU_SHIFT may reach 35, log 14),
a read's remainder the CRC of exactly the bytes it has taken, whatever other requesters compute meanwhile
(10_state.md R22; 43_link_manager.md R200 to R205; log 12),
REPLY in its canonical form (log 22), and CAUSE 0 exactly while FATAL is, never an unused code
(60_exceptions.md R341, R346). -/
def Obligations.RegisterInvariantsAreKept : Prop :=
  (∀ s t : State, s.StagingInv → step s = .next t → t.StagingInv) ∧
  (∀ s t : State, s.StatusInv → step s = .next t → t.StatusInv)

/-- The three invariants hold after reset. -/
def Obligations.InvariantsHoldAtReset : Prop :=
  State.reset.LinkInv ∧ State.reset.StagingInv ∧ State.reset.StatusInv
end

