-- ==== Sys2Proof/Laws/State.lean ====
section
/-! SUPPORT. For each named update of the state, what every field is after it: all true by rfl. -/

namespace Sys2Proof.Machine

open Sys2Proof

/-! ### ret -/

@[simp] theorem State.ret_sourceId (r : Nat) (res : Result) (s : State) :
    (State.ret r res s).sourceId = s.sourceId := rfl
@[simp] theorem State.ret_crcEnforce (r : Nat) (res : Result) (s : State) :
    (State.ret r res s).crcEnforce = s.crcEnforce := rfl
@[simp] theorem State.ret_resyncWindow (r : Nat) (res : Result) (s : State) :
    (State.ret r res s).resyncWindow = s.resyncWindow := rfl
@[simp] theorem State.ret_clients (r : Nat) (res : Result) (s : State) :
    (State.ret r res s).clients = s.clients := rfl
@[simp] theorem State.ret_token (r : Nat) (res : Result) (s : State) :
    (State.ret r res s).token = s.token := rfl
@[simp] theorem State.ret_waiters (r : Nat) (res : Result) (s : State) :
    (State.ret r res s).waiters = s.waiters := rfl
@[simp] theorem State.ret_txbuf (r : Nat) (res : Result) (s : State) :
    (State.ret r res s).txbuf = s.txbuf := rfl
@[simp] theorem State.ret_txflight (r : Nat) (res : Result) (s : State) :
    (State.ret r res s).txflight = s.txflight := rfl
@[simp] theorem State.ret_wire (r : Nat) (res : Result) (s : State) :
    (State.ret r res s).wire = s.wire := rfl
@[simp] theorem State.ret_drs (r : Nat) (res : Result) (s : State) :
    (State.ret r res s).drs = s.drs := rfl
@[simp] theorem State.ret_drOwner (r : Nat) (res : Result) (s : State) :
    (State.ret r res s).drOwner = s.drOwner := rfl
@[simp] theorem State.ret_rxq (r : Nat) (res : Result) (s : State) :
    (State.ret r res s).rxq = s.rxq := rfl
@[simp] theorem State.ret_rx (r : Nat) (res : Result) (s : State) :
    (State.ret r res s).rx = s.rx := rfl
@[simp] theorem State.ret_crcAcc (r : Nat) (res : Result) (s : State) :
    (State.ret r res s).crcAcc = s.crcAcc := rfl
@[simp] theorem State.ret_vu (r : Nat) (res : Result) (s : State) :
    (State.ret r res s).vu = s.vu := rfl
@[simp] theorem State.ret_pay (r : Nat) (res : Result) (s : State) :
    (State.ret r res s).pay = s.pay := rfl
@[simp] theorem State.ret_cur (r : Nat) (res : Result) (s : State) :
    (State.ret r res s).cur = s.cur := rfl
@[simp] theorem State.ret_reply (r : Nat) (res : Result) (s : State) :
    (State.ret r res s).reply = s.reply := rfl
@[simp] theorem State.ret_crcOk (r : Nat) (res : Result) (s : State) :
    (State.ret r res s).crcOk = s.crcOk := rfl
@[simp] theorem State.ret_fatal (r : Nat) (res : Result) (s : State) :
    (State.ret r res s).fatal = s.fatal := rfl
@[simp] theorem State.ret_cause (r : Nat) (res : Result) (s : State) :
    (State.ret r res s).cause = s.cause := rfl
@[simp] theorem State.ret_lastStop (r : Nat) (res : Result) (s : State) :
    (State.ret r res s).lastStop = s.lastStop := rfl
@[simp] theorem State.ret_issuer (r : Nat) (res : Result) (s : State) :
    (State.ret r res s).issuer = s.issuer := rfl
@[simp] theorem State.ret_events (r : Nat) (res : Result) (s : State) :
    (State.ret r res s).events = s.events := rfl
@[simp] theorem State.ret_results (r : Nat) (res : Result) (s : State) :
    (State.ret r res s).results = s.results ++ [(r, res)] := rfl
@[simp] theorem State.ret_inputs (r : Nat) (res : Result) (s : State) :
    (State.ret r res s).inputs = s.inputs := rfl
@[simp] theorem State.ret_tick (r : Nat) (res : Result) (s : State) :
    (State.ret r res s).tick = s.tick := rfl

/-! ### emit -/

@[simp] theorem State.emit_sourceId (es : List Event) (s : State) :
    (State.emit es s).sourceId = s.sourceId := rfl
@[simp] theorem State.emit_crcEnforce (es : List Event) (s : State) :
    (State.emit es s).crcEnforce = s.crcEnforce := rfl
@[simp] theorem State.emit_resyncWindow (es : List Event) (s : State) :
    (State.emit es s).resyncWindow = s.resyncWindow := rfl
@[simp] theorem State.emit_clients (es : List Event) (s : State) :
    (State.emit es s).clients = s.clients := rfl
@[simp] theorem State.emit_token (es : List Event) (s : State) :
    (State.emit es s).token = s.token := rfl
@[simp] theorem State.emit_waiters (es : List Event) (s : State) :
    (State.emit es s).waiters = s.waiters := rfl
@[simp] theorem State.emit_txbuf (es : List Event) (s : State) :
    (State.emit es s).txbuf = s.txbuf := rfl
@[simp] theorem State.emit_txflight (es : List Event) (s : State) :
    (State.emit es s).txflight = s.txflight := rfl
@[simp] theorem State.emit_wire (es : List Event) (s : State) :
    (State.emit es s).wire = s.wire := rfl
@[simp] theorem State.emit_drs (es : List Event) (s : State) : (State.emit es s).drs = s.drs := rfl
@[simp] theorem State.emit_drOwner (es : List Event) (s : State) :
    (State.emit es s).drOwner = s.drOwner := rfl
@[simp] theorem State.emit_rxq (es : List Event) (s : State) : (State.emit es s).rxq = s.rxq := rfl
@[simp] theorem State.emit_rx (es : List Event) (s : State) : (State.emit es s).rx = s.rx := rfl
@[simp] theorem State.emit_crcAcc (es : List Event) (s : State) :
    (State.emit es s).crcAcc = s.crcAcc := rfl
@[simp] theorem State.emit_vu (es : List Event) (s : State) : (State.emit es s).vu = s.vu := rfl
@[simp] theorem State.emit_pay (es : List Event) (s : State) : (State.emit es s).pay = s.pay := rfl
@[simp] theorem State.emit_cur (es : List Event) (s : State) : (State.emit es s).cur = s.cur := rfl
@[simp] theorem State.emit_reply (es : List Event) (s : State) :
    (State.emit es s).reply = s.reply := rfl
@[simp] theorem State.emit_crcOk (es : List Event) (s : State) :
    (State.emit es s).crcOk = s.crcOk := rfl
@[simp] theorem State.emit_fatal (es : List Event) (s : State) :
    (State.emit es s).fatal = s.fatal := rfl
@[simp] theorem State.emit_cause (es : List Event) (s : State) :
    (State.emit es s).cause = s.cause := rfl
@[simp] theorem State.emit_lastStop (es : List Event) (s : State) :
    (State.emit es s).lastStop = s.lastStop := rfl
@[simp] theorem State.emit_issuer (es : List Event) (s : State) :
    (State.emit es s).issuer = s.issuer := rfl
@[simp] theorem State.emit_events (es : List Event) (s : State) :
    (State.emit es s).events = s.events ++ es := rfl
@[simp] theorem State.emit_results (es : List Event) (s : State) :
    (State.emit es s).results = s.results := rfl
@[simp] theorem State.emit_inputs (es : List Event) (s : State) :
    (State.emit es s).inputs = s.inputs := rfl
@[simp] theorem State.emit_tick (es : List Event) (s : State) :
    (State.emit es s).tick = s.tick := rfl

/-! ### raise -/

@[simp] theorem State.raise_sourceId (c : Cause) (r : Nat) (s : State) :
    (State.raise c r s).sourceId = s.sourceId := rfl
@[simp] theorem State.raise_crcEnforce (c : Cause) (r : Nat) (s : State) :
    (State.raise c r s).crcEnforce = s.crcEnforce := rfl
@[simp] theorem State.raise_resyncWindow (c : Cause) (r : Nat) (s : State) :
    (State.raise c r s).resyncWindow = s.resyncWindow := rfl
@[simp] theorem State.raise_clients (c : Cause) (r : Nat) (s : State) :
    (State.raise c r s).clients = s.clients := rfl
@[simp] theorem State.raise_token (c : Cause) (r : Nat) (s : State) :
    (State.raise c r s).token = s.token := rfl
@[simp] theorem State.raise_waiters (c : Cause) (r : Nat) (s : State) :
    (State.raise c r s).waiters = s.waiters := rfl
@[simp] theorem State.raise_txbuf (c : Cause) (r : Nat) (s : State) :
    (State.raise c r s).txbuf = s.txbuf := rfl
@[simp] theorem State.raise_txflight (c : Cause) (r : Nat) (s : State) :
    (State.raise c r s).txflight = s.txflight := rfl
@[simp] theorem State.raise_wire (c : Cause) (r : Nat) (s : State) :
    (State.raise c r s).wire = s.wire := rfl
@[simp] theorem State.raise_drs (c : Cause) (r : Nat) (s : State) :
    (State.raise c r s).drs = s.drs := rfl
@[simp] theorem State.raise_drOwner (c : Cause) (r : Nat) (s : State) :
    (State.raise c r s).drOwner = s.drOwner := rfl
@[simp] theorem State.raise_rxq (c : Cause) (r : Nat) (s : State) :
    (State.raise c r s).rxq = s.rxq := rfl
@[simp] theorem State.raise_rx (c : Cause) (r : Nat) (s : State) :
    (State.raise c r s).rx = s.rx := rfl
@[simp] theorem State.raise_crcAcc (c : Cause) (r : Nat) (s : State) :
    (State.raise c r s).crcAcc = s.crcAcc := rfl
@[simp] theorem State.raise_vu (c : Cause) (r : Nat) (s : State) :
    (State.raise c r s).vu = s.vu := rfl
@[simp] theorem State.raise_pay (c : Cause) (r : Nat) (s : State) :
    (State.raise c r s).pay = s.pay := rfl
@[simp] theorem State.raise_cur (c : Cause) (r : Nat) (s : State) :
    (State.raise c r s).cur = s.cur := rfl
@[simp] theorem State.raise_reply (c : Cause) (r : Nat) (s : State) :
    (State.raise c r s).reply = s.reply := rfl
@[simp] theorem State.raise_crcOk (c : Cause) (r : Nat) (s : State) :
    (State.raise c r s).crcOk = s.crcOk := rfl
@[simp] theorem State.raise_fatal (c : Cause) (r : Nat) (s : State) :
    (State.raise c r s).fatal = true := rfl
@[simp] theorem State.raise_cause (c : Cause) (r : Nat) (s : State) :
    (State.raise c r s).cause = causeAfter s.fatal s.cause c := rfl
@[simp] theorem State.raise_lastStop (c : Cause) (r : Nat) (s : State) :
    (State.raise c r s).lastStop = s.lastStop := rfl
@[simp] theorem State.raise_issuer (c : Cause) (r : Nat) (s : State) :
    (State.raise c r s).issuer = s.issuer := rfl
@[simp] theorem State.raise_events (c : Cause) (r : Nat) (s : State) :
    (State.raise c r s).events = s.events ++ [.fatal c] := rfl
@[simp] theorem State.raise_results (c : Cause) (r : Nat) (s : State) :
    (State.raise c r s).results = s.results ++ [(r, .fatal c)] := rfl
@[simp] theorem State.raise_inputs (c : Cause) (r : Nat) (s : State) :
    (State.raise c r s).inputs = s.inputs := rfl
@[simp] theorem State.raise_tick (c : Cause) (r : Nat) (s : State) :
    (State.raise c r s).tick = s.tick := rfl

/-! ### modClient -/

@[simp] theorem State.modClient_sourceId (r : Nat) (f : Client → Client) (s : State) :
    (State.modClient r f s).sourceId = s.sourceId := rfl
@[simp] theorem State.modClient_crcEnforce (r : Nat) (f : Client → Client) (s : State) :
    (State.modClient r f s).crcEnforce = s.crcEnforce := rfl
@[simp] theorem State.modClient_resyncWindow (r : Nat) (f : Client → Client) (s : State) :
    (State.modClient r f s).resyncWindow = s.resyncWindow := rfl
@[simp] theorem State.modClient_clients (r : Nat) (f : Client → Client) (s : State) :
    (State.modClient r f s).clients = s.clients.modify r f := rfl
@[simp] theorem State.modClient_token (r : Nat) (f : Client → Client) (s : State) :
    (State.modClient r f s).token = s.token := rfl
@[simp] theorem State.modClient_waiters (r : Nat) (f : Client → Client) (s : State) :
    (State.modClient r f s).waiters = s.waiters := rfl
@[simp] theorem State.modClient_txbuf (r : Nat) (f : Client → Client) (s : State) :
    (State.modClient r f s).txbuf = s.txbuf := rfl
@[simp] theorem State.modClient_txflight (r : Nat) (f : Client → Client) (s : State) :
    (State.modClient r f s).txflight = s.txflight := rfl
@[simp] theorem State.modClient_wire (r : Nat) (f : Client → Client) (s : State) :
    (State.modClient r f s).wire = s.wire := rfl
@[simp] theorem State.modClient_drs (r : Nat) (f : Client → Client) (s : State) :
    (State.modClient r f s).drs = s.drs := rfl
@[simp] theorem State.modClient_drOwner (r : Nat) (f : Client → Client) (s : State) :
    (State.modClient r f s).drOwner = s.drOwner := rfl
@[simp] theorem State.modClient_rxq (r : Nat) (f : Client → Client) (s : State) :
    (State.modClient r f s).rxq = s.rxq := rfl
@[simp] theorem State.modClient_rx (r : Nat) (f : Client → Client) (s : State) :
    (State.modClient r f s).rx = s.rx := rfl
@[simp] theorem State.modClient_crcAcc (r : Nat) (f : Client → Client) (s : State) :
    (State.modClient r f s).crcAcc = s.crcAcc := rfl
@[simp] theorem State.modClient_vu (r : Nat) (f : Client → Client) (s : State) :
    (State.modClient r f s).vu = s.vu := rfl
@[simp] theorem State.modClient_pay (r : Nat) (f : Client → Client) (s : State) :
    (State.modClient r f s).pay = s.pay := rfl
@[simp] theorem State.modClient_cur (r : Nat) (f : Client → Client) (s : State) :
    (State.modClient r f s).cur = s.cur := rfl
@[simp] theorem State.modClient_reply (r : Nat) (f : Client → Client) (s : State) :
    (State.modClient r f s).reply = s.reply := rfl
@[simp] theorem State.modClient_crcOk (r : Nat) (f : Client → Client) (s : State) :
    (State.modClient r f s).crcOk = s.crcOk := rfl
@[simp] theorem State.modClient_fatal (r : Nat) (f : Client → Client) (s : State) :
    (State.modClient r f s).fatal = s.fatal := rfl
@[simp] theorem State.modClient_cause (r : Nat) (f : Client → Client) (s : State) :
    (State.modClient r f s).cause = s.cause := rfl
@[simp] theorem State.modClient_lastStop (r : Nat) (f : Client → Client) (s : State) :
    (State.modClient r f s).lastStop = s.lastStop := rfl
@[simp] theorem State.modClient_issuer (r : Nat) (f : Client → Client) (s : State) :
    (State.modClient r f s).issuer = s.issuer := rfl
@[simp] theorem State.modClient_events (r : Nat) (f : Client → Client) (s : State) :
    (State.modClient r f s).events = s.events := rfl
@[simp] theorem State.modClient_results (r : Nat) (f : Client → Client) (s : State) :
    (State.modClient r f s).results = s.results := rfl
@[simp] theorem State.modClient_inputs (r : Nat) (f : Client → Client) (s : State) :
    (State.modClient r f s).inputs = s.inputs := rfl
@[simp] theorem State.modClient_tick (r : Nat) (f : Client → Client) (s : State) :
    (State.modClient r f s).tick = s.tick := rfl

/-! ### endCommand -/

@[simp] theorem State.endCommand_sourceId (r : Nat) (res : Result) (s : State) :
    (State.endCommand r res s).sourceId = s.sourceId := rfl
@[simp] theorem State.endCommand_crcEnforce (r : Nat) (res : Result) (s : State) :
    (State.endCommand r res s).crcEnforce = s.crcEnforce := rfl
@[simp] theorem State.endCommand_resyncWindow (r : Nat) (res : Result) (s : State) :
    (State.endCommand r res s).resyncWindow = s.resyncWindow := rfl
@[simp] theorem State.endCommand_clients (r : Nat) (res : Result) (s : State) :
    (State.endCommand r res s).clients = s.clients.modify r Client.rest := rfl
@[simp] theorem State.endCommand_token (r : Nat) (res : Result) (s : State) :
    (State.endCommand r res s).token = .free := rfl
@[simp] theorem State.endCommand_waiters (r : Nat) (res : Result) (s : State) :
    (State.endCommand r res s).waiters = s.waiters := rfl
@[simp] theorem State.endCommand_txbuf (r : Nat) (res : Result) (s : State) :
    (State.endCommand r res s).txbuf = s.txbuf := rfl
@[simp] theorem State.endCommand_txflight (r : Nat) (res : Result) (s : State) :
    (State.endCommand r res s).txflight = s.txflight := rfl
@[simp] theorem State.endCommand_wire (r : Nat) (res : Result) (s : State) :
    (State.endCommand r res s).wire = s.wire := rfl
@[simp] theorem State.endCommand_drs (r : Nat) (res : Result) (s : State) :
    (State.endCommand r res s).drs = s.drs := rfl
@[simp] theorem State.endCommand_drOwner (r : Nat) (res : Result) (s : State) :
    (State.endCommand r res s).drOwner = s.drOwner := rfl
@[simp] theorem State.endCommand_rxq (r : Nat) (res : Result) (s : State) :
    (State.endCommand r res s).rxq = s.rxq := rfl
@[simp] theorem State.endCommand_rx (r : Nat) (res : Result) (s : State) :
    (State.endCommand r res s).rx = s.rx := rfl
@[simp] theorem State.endCommand_crcAcc (r : Nat) (res : Result) (s : State) :
    (State.endCommand r res s).crcAcc = s.crcAcc := rfl
@[simp] theorem State.endCommand_vu (r : Nat) (res : Result) (s : State) :
    (State.endCommand r res s).vu = s.vu := rfl
@[simp] theorem State.endCommand_pay (r : Nat) (res : Result) (s : State) :
    (State.endCommand r res s).pay = s.pay := rfl
@[simp] theorem State.endCommand_cur (r : Nat) (res : Result) (s : State) :
    (State.endCommand r res s).cur = s.cur := rfl
@[simp] theorem State.endCommand_reply (r : Nat) (res : Result) (s : State) :
    (State.endCommand r res s).reply = s.reply := rfl
@[simp] theorem State.endCommand_crcOk (r : Nat) (res : Result) (s : State) :
    (State.endCommand r res s).crcOk = s.crcOk := rfl
@[simp] theorem State.endCommand_fatal (r : Nat) (res : Result) (s : State) :
    (State.endCommand r res s).fatal = s.fatal := rfl
@[simp] theorem State.endCommand_cause (r : Nat) (res : Result) (s : State) :
    (State.endCommand r res s).cause = s.cause := rfl
@[simp] theorem State.endCommand_lastStop (r : Nat) (res : Result) (s : State) :
    (State.endCommand r res s).lastStop = s.lastStop := rfl
@[simp] theorem State.endCommand_issuer (r : Nat) (res : Result) (s : State) :
    (State.endCommand r res s).issuer = s.issuer := rfl
@[simp] theorem State.endCommand_events (r : Nat) (res : Result) (s : State) :
    (State.endCommand r res s).events = s.events := rfl
@[simp] theorem State.endCommand_results (r : Nat) (res : Result) (s : State) :
    (State.endCommand r res s).results = s.results ++ [(r, res)] := rfl
@[simp] theorem State.endCommand_inputs (r : Nat) (res : Result) (s : State) :
    (State.endCommand r res s).inputs = s.inputs := rfl
@[simp] theorem State.endCommand_tick (r : Nat) (res : Result) (s : State) :
    (State.endCommand r res s).tick = s.tick := rfl

/-! ### appendRequest -/

@[simp] theorem State.appendRequest_sourceId (r : Nat) (bs : Bytes) (s : State) :
    (State.appendRequest r bs s).sourceId = s.sourceId := rfl
@[simp] theorem State.appendRequest_crcEnforce (r : Nat) (bs : Bytes) (s : State) :
    (State.appendRequest r bs s).crcEnforce = s.crcEnforce := rfl
@[simp] theorem State.appendRequest_resyncWindow (r : Nat) (bs : Bytes) (s : State) :
    (State.appendRequest r bs s).resyncWindow = s.resyncWindow := rfl
@[simp] theorem State.appendRequest_clients (r : Nat) (bs : Bytes) (s : State) :
    (State.appendRequest r bs s).clients = s.clients.modify r fun c => { c with reqbuf := c.reqbuf ++ bs } := rfl
@[simp] theorem State.appendRequest_token (r : Nat) (bs : Bytes) (s : State) :
    (State.appendRequest r bs s).token = s.token := rfl
@[simp] theorem State.appendRequest_waiters (r : Nat) (bs : Bytes) (s : State) :
    (State.appendRequest r bs s).waiters = s.waiters := rfl
@[simp] theorem State.appendRequest_txbuf (r : Nat) (bs : Bytes) (s : State) :
    (State.appendRequest r bs s).txbuf = s.txbuf := rfl
@[simp] theorem State.appendRequest_txflight (r : Nat) (bs : Bytes) (s : State) :
    (State.appendRequest r bs s).txflight = s.txflight := rfl
@[simp] theorem State.appendRequest_wire (r : Nat) (bs : Bytes) (s : State) :
    (State.appendRequest r bs s).wire = s.wire := rfl
@[simp] theorem State.appendRequest_drs (r : Nat) (bs : Bytes) (s : State) :
    (State.appendRequest r bs s).drs = s.drs := rfl
@[simp] theorem State.appendRequest_drOwner (r : Nat) (bs : Bytes) (s : State) :
    (State.appendRequest r bs s).drOwner = s.drOwner := rfl
@[simp] theorem State.appendRequest_rxq (r : Nat) (bs : Bytes) (s : State) :
    (State.appendRequest r bs s).rxq = s.rxq := rfl
@[simp] theorem State.appendRequest_rx (r : Nat) (bs : Bytes) (s : State) :
    (State.appendRequest r bs s).rx = s.rx := rfl
@[simp] theorem State.appendRequest_crcAcc (r : Nat) (bs : Bytes) (s : State) :
    (State.appendRequest r bs s).crcAcc = s.crcAcc := rfl
@[simp] theorem State.appendRequest_vu (r : Nat) (bs : Bytes) (s : State) :
    (State.appendRequest r bs s).vu = s.vu := rfl
@[simp] theorem State.appendRequest_pay (r : Nat) (bs : Bytes) (s : State) :
    (State.appendRequest r bs s).pay = s.pay := rfl
@[simp] theorem State.appendRequest_cur (r : Nat) (bs : Bytes) (s : State) :
    (State.appendRequest r bs s).cur = s.cur := rfl
@[simp] theorem State.appendRequest_reply (r : Nat) (bs : Bytes) (s : State) :
    (State.appendRequest r bs s).reply = s.reply := rfl
@[simp] theorem State.appendRequest_crcOk (r : Nat) (bs : Bytes) (s : State) :
    (State.appendRequest r bs s).crcOk = s.crcOk := rfl
@[simp] theorem State.appendRequest_fatal (r : Nat) (bs : Bytes) (s : State) :
    (State.appendRequest r bs s).fatal = s.fatal := rfl
@[simp] theorem State.appendRequest_cause (r : Nat) (bs : Bytes) (s : State) :
    (State.appendRequest r bs s).cause = s.cause := rfl
@[simp] theorem State.appendRequest_lastStop (r : Nat) (bs : Bytes) (s : State) :
    (State.appendRequest r bs s).lastStop = s.lastStop := rfl
@[simp] theorem State.appendRequest_issuer (r : Nat) (bs : Bytes) (s : State) :
    (State.appendRequest r bs s).issuer = s.issuer := rfl
@[simp] theorem State.appendRequest_events (r : Nat) (bs : Bytes) (s : State) :
    (State.appendRequest r bs s).events = s.events := rfl
@[simp] theorem State.appendRequest_results (r : Nat) (bs : Bytes) (s : State) :
    (State.appendRequest r bs s).results = s.results ++ [(r, .done)] := rfl
@[simp] theorem State.appendRequest_inputs (r : Nat) (bs : Bytes) (s : State) :
    (State.appendRequest r bs s).inputs = s.inputs := rfl
@[simp] theorem State.appendRequest_tick (r : Nat) (bs : Bytes) (s : State) :
    (State.appendRequest r bs s).tick = s.tick := rfl

/-! ### startDrain -/

@[simp] theorem State.startDrain_sourceId (r : Nat) (s : State) :
    (State.startDrain r s).sourceId = s.sourceId := rfl
@[simp] theorem State.startDrain_crcEnforce (r : Nat) (s : State) :
    (State.startDrain r s).crcEnforce = s.crcEnforce := rfl
@[simp] theorem State.startDrain_resyncWindow (r : Nat) (s : State) :
    (State.startDrain r s).resyncWindow = s.resyncWindow := rfl
@[simp] theorem State.startDrain_clients (r : Nat) (s : State) :
    (State.startDrain r s).clients = s.clients := rfl
@[simp] theorem State.startDrain_token (r : Nat) (s : State) :
    (State.startDrain r s).token = s.token := rfl
@[simp] theorem State.startDrain_waiters (r : Nat) (s : State) :
    (State.startDrain r s).waiters = s.waiters := rfl
@[simp] theorem State.startDrain_txbuf (r : Nat) (s : State) :
    (State.startDrain r s).txbuf = [] := rfl
@[simp] theorem State.startDrain_txflight (r : Nat) (s : State) :
    (State.startDrain r s).txflight = s.txbuf := rfl
@[simp] theorem State.startDrain_wire (r : Nat) (s : State) :
    (State.startDrain r s).wire = s.wire := rfl
@[simp] theorem State.startDrain_drs (r : Nat) (s : State) :
    (State.startDrain r s).drs = .write := rfl
@[simp] theorem State.startDrain_drOwner (r : Nat) (s : State) :
    (State.startDrain r s).drOwner = some r := rfl
@[simp] theorem State.startDrain_rxq (r : Nat) (s : State) :
    (State.startDrain r s).rxq = s.rxq := rfl
@[simp] theorem State.startDrain_rx (r : Nat) (s : State) : (State.startDrain r s).rx = s.rx := rfl
@[simp] theorem State.startDrain_crcAcc (r : Nat) (s : State) :
    (State.startDrain r s).crcAcc = s.crcAcc := rfl
@[simp] theorem State.startDrain_vu (r : Nat) (s : State) : (State.startDrain r s).vu = s.vu := rfl
@[simp] theorem State.startDrain_pay (r : Nat) (s : State) :
    (State.startDrain r s).pay = s.pay := rfl
@[simp] theorem State.startDrain_cur (r : Nat) (s : State) :
    (State.startDrain r s).cur = s.cur := rfl
@[simp] theorem State.startDrain_reply (r : Nat) (s : State) :
    (State.startDrain r s).reply = s.reply := rfl
@[simp] theorem State.startDrain_crcOk (r : Nat) (s : State) :
    (State.startDrain r s).crcOk = s.crcOk := rfl
@[simp] theorem State.startDrain_fatal (r : Nat) (s : State) :
    (State.startDrain r s).fatal = s.fatal := rfl
@[simp] theorem State.startDrain_cause (r : Nat) (s : State) :
    (State.startDrain r s).cause = s.cause := rfl
@[simp] theorem State.startDrain_lastStop (r : Nat) (s : State) :
    (State.startDrain r s).lastStop = s.lastStop := rfl
@[simp] theorem State.startDrain_issuer (r : Nat) (s : State) :
    (State.startDrain r s).issuer = s.issuer := rfl
@[simp] theorem State.startDrain_events (r : Nat) (s : State) :
    (State.startDrain r s).events = s.events := rfl
@[simp] theorem State.startDrain_results (r : Nat) (s : State) :
    (State.startDrain r s).results = s.results := rfl
@[simp] theorem State.startDrain_inputs (r : Nat) (s : State) :
    (State.startDrain r s).inputs = s.inputs := rfl
@[simp] theorem State.startDrain_tick (r : Nat) (s : State) :
    (State.startDrain r s).tick = s.tick := rfl

/-! ### acceptRead -/

@[simp] theorem State.acceptRead_sourceId (r : Nat) (filter : Option Id7) (s : State) :
    (State.acceptRead r filter s).sourceId = s.sourceId := rfl
@[simp] theorem State.acceptRead_crcEnforce (r : Nat) (filter : Option Id7) (s : State) :
    (State.acceptRead r filter s).crcEnforce = s.crcEnforce := rfl
@[simp] theorem State.acceptRead_resyncWindow (r : Nat) (filter : Option Id7) (s : State) :
    (State.acceptRead r filter s).resyncWindow = s.resyncWindow := rfl
@[simp] theorem State.acceptRead_clients (r : Nat) (filter : Option Id7) (s : State) :
    (State.acceptRead r filter s).clients = s.clients := rfl
@[simp] theorem State.acceptRead_token (r : Nat) (filter : Option Id7) (s : State) :
    (State.acceptRead r filter s).token = s.token := rfl
@[simp] theorem State.acceptRead_waiters (r : Nat) (filter : Option Id7) (s : State) :
    (State.acceptRead r filter s).waiters = s.waiters := rfl
@[simp] theorem State.acceptRead_txbuf (r : Nat) (filter : Option Id7) (s : State) :
    (State.acceptRead r filter s).txbuf = s.txbuf := rfl
@[simp] theorem State.acceptRead_txflight (r : Nat) (filter : Option Id7) (s : State) :
    (State.acceptRead r filter s).txflight = s.txflight := rfl
@[simp] theorem State.acceptRead_wire (r : Nat) (filter : Option Id7) (s : State) :
    (State.acceptRead r filter s).wire = s.wire := rfl
@[simp] theorem State.acceptRead_drs (r : Nat) (filter : Option Id7) (s : State) :
    (State.acceptRead r filter s).drs = s.drs := rfl
@[simp] theorem State.acceptRead_drOwner (r : Nat) (filter : Option Id7) (s : State) :
    (State.acceptRead r filter s).drOwner = s.drOwner := rfl
@[simp] theorem State.acceptRead_rxq (r : Nat) (filter : Option Id7) (s : State) :
    (State.acceptRead r filter s).rxq = s.rxq := rfl
@[simp] theorem State.acceptRead_rx (r : Nat) (filter : Option Id7) (s : State) :
    (State.acceptRead r filter s).rx = { s.rx with state := .hdr, owner := some r, filter := filter, cnt := 0, payload := [], acc := Config.crcInit } := rfl
@[simp] theorem State.acceptRead_crcAcc (r : Nat) (filter : Option Id7) (s : State) :
    (State.acceptRead r filter s).crcAcc = Config.crcInit := rfl
@[simp] theorem State.acceptRead_vu (r : Nat) (filter : Option Id7) (s : State) :
    (State.acceptRead r filter s).vu = s.vu := rfl
@[simp] theorem State.acceptRead_pay (r : Nat) (filter : Option Id7) (s : State) :
    (State.acceptRead r filter s).pay = s.pay := rfl
@[simp] theorem State.acceptRead_cur (r : Nat) (filter : Option Id7) (s : State) :
    (State.acceptRead r filter s).cur = s.cur := rfl
@[simp] theorem State.acceptRead_reply (r : Nat) (filter : Option Id7) (s : State) :
    (State.acceptRead r filter s).reply = s.reply := rfl
@[simp] theorem State.acceptRead_crcOk (r : Nat) (filter : Option Id7) (s : State) :
    (State.acceptRead r filter s).crcOk = s.crcOk := rfl
@[simp] theorem State.acceptRead_fatal (r : Nat) (filter : Option Id7) (s : State) :
    (State.acceptRead r filter s).fatal = s.fatal := rfl
@[simp] theorem State.acceptRead_cause (r : Nat) (filter : Option Id7) (s : State) :
    (State.acceptRead r filter s).cause = s.cause := rfl
@[simp] theorem State.acceptRead_lastStop (r : Nat) (filter : Option Id7) (s : State) :
    (State.acceptRead r filter s).lastStop = s.lastStop := rfl
@[simp] theorem State.acceptRead_issuer (r : Nat) (filter : Option Id7) (s : State) :
    (State.acceptRead r filter s).issuer = s.issuer := rfl
@[simp] theorem State.acceptRead_events (r : Nat) (filter : Option Id7) (s : State) :
    (State.acceptRead r filter s).events = s.events := rfl
@[simp] theorem State.acceptRead_results (r : Nat) (filter : Option Id7) (s : State) :
    (State.acceptRead r filter s).results = s.results := rfl
@[simp] theorem State.acceptRead_inputs (r : Nat) (filter : Option Id7) (s : State) :
    (State.acceptRead r filter s).inputs = s.inputs := rfl
@[simp] theorem State.acceptRead_tick (r : Nat) (filter : Option Id7) (s : State) :
    (State.acceptRead r filter s).tick = s.tick := rfl

/-! ### fetched -/

@[simp] theorem State.fetched_sourceId (rd : Reader) (s : State) :
    (State.fetched rd s).sourceId = s.sourceId := rfl
@[simp] theorem State.fetched_crcEnforce (rd : Reader) (s : State) :
    (State.fetched rd s).crcEnforce = s.crcEnforce := rfl
@[simp] theorem State.fetched_resyncWindow (rd : Reader) (s : State) :
    (State.fetched rd s).resyncWindow = s.resyncWindow := rfl
@[simp] theorem State.fetched_clients (rd : Reader) (s : State) :
    (State.fetched rd s).clients = s.clients := rfl
@[simp] theorem State.fetched_token (rd : Reader) (s : State) :
    (State.fetched rd s).token = s.token := rfl
@[simp] theorem State.fetched_waiters (rd : Reader) (s : State) :
    (State.fetched rd s).waiters = s.waiters := rfl
@[simp] theorem State.fetched_txbuf (rd : Reader) (s : State) :
    (State.fetched rd s).txbuf = s.txbuf := rfl
@[simp] theorem State.fetched_txflight (rd : Reader) (s : State) :
    (State.fetched rd s).txflight = s.txflight := rfl
@[simp] theorem State.fetched_wire (rd : Reader) (s : State) :
    (State.fetched rd s).wire = s.wire := rfl
@[simp] theorem State.fetched_drs (rd : Reader) (s : State) :
    (State.fetched rd s).drs = s.drs := rfl
@[simp] theorem State.fetched_drOwner (rd : Reader) (s : State) :
    (State.fetched rd s).drOwner = s.drOwner := rfl
@[simp] theorem State.fetched_rxq (rd : Reader) (s : State) :
    (State.fetched rd s).rxq = s.rxq := rfl
@[simp] theorem State.fetched_rx (rd : Reader) (s : State) : (State.fetched rd s).rx = s.rx := rfl
@[simp] theorem State.fetched_crcAcc (rd : Reader) (s : State) :
    (State.fetched rd s).crcAcc = s.crcAcc := rfl
@[simp] theorem State.fetched_vu (rd : Reader) (s : State) : (State.fetched rd s).vu = rd.vu := rfl
@[simp] theorem State.fetched_pay (rd : Reader) (s : State) :
    (State.fetched rd s).pay = rd.pay := rfl
@[simp] theorem State.fetched_cur (rd : Reader) (s : State) :
    (State.fetched rd s).cur = rd.cur := rfl
@[simp] theorem State.fetched_reply (rd : Reader) (s : State) :
    (State.fetched rd s).reply = s.reply := rfl
@[simp] theorem State.fetched_crcOk (rd : Reader) (s : State) :
    (State.fetched rd s).crcOk = s.crcOk := rfl
@[simp] theorem State.fetched_fatal (rd : Reader) (s : State) :
    (State.fetched rd s).fatal = s.fatal := rfl
@[simp] theorem State.fetched_cause (rd : Reader) (s : State) :
    (State.fetched rd s).cause = s.cause := rfl
@[simp] theorem State.fetched_lastStop (rd : Reader) (s : State) :
    (State.fetched rd s).lastStop = s.lastStop := rfl
@[simp] theorem State.fetched_issuer (rd : Reader) (s : State) :
    (State.fetched rd s).issuer = s.issuer := rfl
@[simp] theorem State.fetched_events (rd : Reader) (s : State) :
    (State.fetched rd s).events = s.events := rfl
@[simp] theorem State.fetched_results (rd : Reader) (s : State) :
    (State.fetched rd s).results = s.results := rfl
@[simp] theorem State.fetched_inputs (rd : Reader) (s : State) :
    (State.fetched rd s).inputs = s.inputs := rfl
@[simp] theorem State.fetched_tick (rd : Reader) (s : State) :
    (State.fetched rd s).tick = s.tick := rfl

/-! ### conclude -/

@[simp] theorem State.conclude_sourceId (r : Nat) (res : Result) (s : State) :
    (State.conclude r res s).sourceId = s.sourceId := rfl
@[simp] theorem State.conclude_crcEnforce (r : Nat) (res : Result) (s : State) :
    (State.conclude r res s).crcEnforce = s.crcEnforce := rfl
@[simp] theorem State.conclude_resyncWindow (r : Nat) (res : Result) (s : State) :
    (State.conclude r res s).resyncWindow = s.resyncWindow := rfl
@[simp] theorem State.conclude_clients (r : Nat) (res : Result) (s : State) :
    (State.conclude r res s).clients = s.clients.modify r fun c => { c with outcome := some res } := rfl
@[simp] theorem State.conclude_token (r : Nat) (res : Result) (s : State) :
    (State.conclude r res s).token = s.token := rfl
@[simp] theorem State.conclude_waiters (r : Nat) (res : Result) (s : State) :
    (State.conclude r res s).waiters = s.waiters := rfl
@[simp] theorem State.conclude_txbuf (r : Nat) (res : Result) (s : State) :
    (State.conclude r res s).txbuf = s.txbuf := rfl
@[simp] theorem State.conclude_txflight (r : Nat) (res : Result) (s : State) :
    (State.conclude r res s).txflight = s.txflight := rfl
@[simp] theorem State.conclude_wire (r : Nat) (res : Result) (s : State) :
    (State.conclude r res s).wire = s.wire := rfl
@[simp] theorem State.conclude_drs (r : Nat) (res : Result) (s : State) :
    (State.conclude r res s).drs = s.drs := rfl
@[simp] theorem State.conclude_drOwner (r : Nat) (res : Result) (s : State) :
    (State.conclude r res s).drOwner = s.drOwner := rfl
@[simp] theorem State.conclude_rxq (r : Nat) (res : Result) (s : State) :
    (State.conclude r res s).rxq = s.rxq := rfl
@[simp] theorem State.conclude_rx (r : Nat) (res : Result) (s : State) :
    (State.conclude r res s).rx = s.rx := rfl
@[simp] theorem State.conclude_crcAcc (r : Nat) (res : Result) (s : State) :
    (State.conclude r res s).crcAcc = s.crcAcc := rfl
@[simp] theorem State.conclude_vu (r : Nat) (res : Result) (s : State) :
    (State.conclude r res s).vu = s.vu := rfl
@[simp] theorem State.conclude_pay (r : Nat) (res : Result) (s : State) :
    (State.conclude r res s).pay = s.pay := rfl
@[simp] theorem State.conclude_cur (r : Nat) (res : Result) (s : State) :
    (State.conclude r res s).cur = s.cur := rfl
@[simp] theorem State.conclude_reply (r : Nat) (res : Result) (s : State) :
    (State.conclude r res s).reply = s.reply := rfl
@[simp] theorem State.conclude_crcOk (r : Nat) (res : Result) (s : State) :
    (State.conclude r res s).crcOk = s.crcOk := rfl
@[simp] theorem State.conclude_fatal (r : Nat) (res : Result) (s : State) :
    (State.conclude r res s).fatal = s.fatal := rfl
@[simp] theorem State.conclude_cause (r : Nat) (res : Result) (s : State) :
    (State.conclude r res s).cause = s.cause := rfl
@[simp] theorem State.conclude_lastStop (r : Nat) (res : Result) (s : State) :
    (State.conclude r res s).lastStop = s.lastStop := rfl
@[simp] theorem State.conclude_issuer (r : Nat) (res : Result) (s : State) :
    (State.conclude r res s).issuer = s.issuer := rfl
@[simp] theorem State.conclude_events (r : Nat) (res : Result) (s : State) :
    (State.conclude r res s).events = s.events := rfl
@[simp] theorem State.conclude_results (r : Nat) (res : Result) (s : State) :
    (State.conclude r res s).results = s.results := rfl
@[simp] theorem State.conclude_inputs (r : Nat) (res : Result) (s : State) :
    (State.conclude r res s).inputs = s.inputs := rfl
@[simp] theorem State.conclude_tick (r : Nat) (res : Result) (s : State) :
    (State.conclude r res s).tick = s.tick := rfl

/-! ### rxArrive -/

@[simp] theorem State.rxArrive_sourceId (b : Byte) (s : State) :
    (State.rxArrive b s).sourceId = s.sourceId := rfl
@[simp] theorem State.rxArrive_crcEnforce (b : Byte) (s : State) :
    (State.rxArrive b s).crcEnforce = s.crcEnforce := rfl
@[simp] theorem State.rxArrive_resyncWindow (b : Byte) (s : State) :
    (State.rxArrive b s).resyncWindow = s.resyncWindow := rfl
@[simp] theorem State.rxArrive_clients (b : Byte) (s : State) :
    (State.rxArrive b s).clients = s.clients := rfl
@[simp] theorem State.rxArrive_token (b : Byte) (s : State) :
    (State.rxArrive b s).token = s.token := rfl
@[simp] theorem State.rxArrive_waiters (b : Byte) (s : State) :
    (State.rxArrive b s).waiters = s.waiters := rfl
@[simp] theorem State.rxArrive_txbuf (b : Byte) (s : State) :
    (State.rxArrive b s).txbuf = s.txbuf := rfl
@[simp] theorem State.rxArrive_txflight (b : Byte) (s : State) :
    (State.rxArrive b s).txflight = s.txflight := rfl
@[simp] theorem State.rxArrive_wire (b : Byte) (s : State) :
    (State.rxArrive b s).wire = s.wire := rfl
@[simp] theorem State.rxArrive_drs (b : Byte) (s : State) : (State.rxArrive b s).drs = s.drs := rfl
@[simp] theorem State.rxArrive_drOwner (b : Byte) (s : State) :
    (State.rxArrive b s).drOwner = s.drOwner := rfl
@[simp] theorem State.rxArrive_rxq (b : Byte) (s : State) :
    (State.rxArrive b s).rxq = s.rxq ++ [b] := rfl
@[simp] theorem State.rxArrive_rx (b : Byte) (s : State) : (State.rxArrive b s).rx = s.rx := rfl
@[simp] theorem State.rxArrive_crcAcc (b : Byte) (s : State) :
    (State.rxArrive b s).crcAcc = s.crcAcc := rfl
@[simp] theorem State.rxArrive_vu (b : Byte) (s : State) : (State.rxArrive b s).vu = s.vu := rfl
@[simp] theorem State.rxArrive_pay (b : Byte) (s : State) : (State.rxArrive b s).pay = s.pay := rfl
@[simp] theorem State.rxArrive_cur (b : Byte) (s : State) : (State.rxArrive b s).cur = s.cur := rfl
@[simp] theorem State.rxArrive_reply (b : Byte) (s : State) :
    (State.rxArrive b s).reply = s.reply := rfl
@[simp] theorem State.rxArrive_crcOk (b : Byte) (s : State) :
    (State.rxArrive b s).crcOk = s.crcOk := rfl
@[simp] theorem State.rxArrive_fatal (b : Byte) (s : State) :
    (State.rxArrive b s).fatal = s.fatal := rfl
@[simp] theorem State.rxArrive_cause (b : Byte) (s : State) :
    (State.rxArrive b s).cause = s.cause := rfl
@[simp] theorem State.rxArrive_lastStop (b : Byte) (s : State) :
    (State.rxArrive b s).lastStop = s.lastStop := rfl
@[simp] theorem State.rxArrive_issuer (b : Byte) (s : State) :
    (State.rxArrive b s).issuer = s.issuer := rfl
@[simp] theorem State.rxArrive_events (b : Byte) (s : State) :
    (State.rxArrive b s).events = s.events := rfl
@[simp] theorem State.rxArrive_results (b : Byte) (s : State) :
    (State.rxArrive b s).results = s.results := rfl
@[simp] theorem State.rxArrive_inputs (b : Byte) (s : State) :
    (State.rxArrive b s).inputs = s.inputs := rfl
@[simp] theorem State.rxArrive_tick (b : Byte) (s : State) :
    (State.rxArrive b s).tick = s.tick := rfl

/-! ### stop -/

@[simp] theorem State.stop_sourceId (why : StopReason) (s : State) :
    (State.stop why s).sourceId = s.sourceId := rfl
@[simp] theorem State.stop_crcEnforce (why : StopReason) (s : State) :
    (State.stop why s).crcEnforce = s.crcEnforce := rfl
@[simp] theorem State.stop_resyncWindow (why : StopReason) (s : State) :
    (State.stop why s).resyncWindow = s.resyncWindow := rfl
@[simp] theorem State.stop_clients (why : StopReason) (s : State) :
    (State.stop why s).clients = s.clients := rfl
@[simp] theorem State.stop_token (why : StopReason) (s : State) :
    (State.stop why s).token = s.token := rfl
@[simp] theorem State.stop_waiters (why : StopReason) (s : State) :
    (State.stop why s).waiters = s.waiters := rfl
@[simp] theorem State.stop_txbuf (why : StopReason) (s : State) :
    (State.stop why s).txbuf = s.txbuf := rfl
@[simp] theorem State.stop_txflight (why : StopReason) (s : State) :
    (State.stop why s).txflight = s.txflight := rfl
@[simp] theorem State.stop_wire (why : StopReason) (s : State) :
    (State.stop why s).wire = s.wire := rfl
@[simp] theorem State.stop_drs (why : StopReason) (s : State) :
    (State.stop why s).drs = s.drs := rfl
@[simp] theorem State.stop_drOwner (why : StopReason) (s : State) :
    (State.stop why s).drOwner = s.drOwner := rfl
@[simp] theorem State.stop_rxq (why : StopReason) (s : State) :
    (State.stop why s).rxq = s.rxq := rfl
@[simp] theorem State.stop_rx (why : StopReason) (s : State) : (State.stop why s).rx = s.rx := rfl
@[simp] theorem State.stop_crcAcc (why : StopReason) (s : State) :
    (State.stop why s).crcAcc = s.crcAcc := rfl
@[simp] theorem State.stop_vu (why : StopReason) (s : State) : (State.stop why s).vu = s.vu := rfl
@[simp] theorem State.stop_pay (why : StopReason) (s : State) :
    (State.stop why s).pay = s.pay := rfl
@[simp] theorem State.stop_cur (why : StopReason) (s : State) :
    (State.stop why s).cur = s.cur := rfl
@[simp] theorem State.stop_reply (why : StopReason) (s : State) :
    (State.stop why s).reply = s.reply := rfl
@[simp] theorem State.stop_crcOk (why : StopReason) (s : State) :
    (State.stop why s).crcOk = s.crcOk := rfl
@[simp] theorem State.stop_fatal (why : StopReason) (s : State) :
    (State.stop why s).fatal = s.fatal := rfl
@[simp] theorem State.stop_cause (why : StopReason) (s : State) :
    (State.stop why s).cause = s.cause := rfl
@[simp] theorem State.stop_lastStop (why : StopReason) (s : State) :
    (State.stop why s).lastStop = why := rfl
@[simp] theorem State.stop_issuer (why : StopReason) (s : State) :
    (State.stop why s).issuer = s.issuer := rfl
@[simp] theorem State.stop_events (why : StopReason) (s : State) :
    (State.stop why s).events = s.events ++ stopEvents why := rfl
@[simp] theorem State.stop_results (why : StopReason) (s : State) :
    (State.stop why s).results = s.results := rfl
@[simp] theorem State.stop_inputs (why : StopReason) (s : State) :
    (State.stop why s).inputs = s.inputs := rfl
@[simp] theorem State.stop_tick (why : StopReason) (s : State) :
    (State.stop why s).tick = s.tick := rfl

end Sys2Proof.Machine
end

