-- ==== Sys2Proof/Laws/Ops.lean ====
section
/-! SUPPORT. What the shared operations can do, each said once: acceptance of a command, the request for
the token, the end of a command, the reply map and WAITERS. -/

namespace Sys2Proof.Machine

open Sys2Proof

/-! ### Acceptance -/

/-- `ready` is what the claims call `CanIssue`. -/
theorem State.canIssue_iff_ready (s : State) : s.CanIssue ↔ s.ready = true := by
  unfold State.CanIssue State.ready State.busy
  cases h : s.clients[s.issuer]? with
  | none =>
    have := List.getElem?_eq_none_iff.mp h
    simp only [Bool.false_eq_true, iff_false]; omega
  | some c =>
    have := (List.getElem?_eq_some_iff.mp h).1
    have hf : c.exOp.isSome = false ↔ c.exOp = none := by cases c.exOp <;> simp
    simp [this, and_assoc]

/-- A command that may be issued runs its body. -/
theorem onCommand_of_canIssue {s : State} (h : s.CanIssue) (body : Nat → Client → State) :
    ∃ c, s.clients[s.issuer]? = some c ∧ onCommand s body = .next (body s.issuer c) := by
  have hr := s.canIssue_iff_ready.mp h
  unfold State.ready at hr
  unfold onCommand
  cases hc : s.clients[s.issuer]? with
  | none => simp [hc] at hr
  | some c =>
    simp only [hc, Bool.not_eq_true'] at hr
    exact ⟨c, rfl, by simp [hr]⟩

/-- The same with the requester's registers given. -/
theorem onCommand_eq {s : State} {c : Client} (h : s.CanIssue) (hc : s.clients[s.issuer]? = some c)
    (body : Nat → Client → State) : onCommand s body = .next (body s.issuer c) := by
  obtain ⟨c', hc', he⟩ := onCommand_of_canIssue h body
  rw [hc] at hc'
  cases hc'
  exact he

/-- All a command can do: its requester does not exist, it is refused, or its body runs. -/
theorem onCommand_cases (s : State) (body : Nat → Client → State) :
    (s.clients[s.issuer]? = none ∧ onCommand s body = .fault .noSuchRequester) ∨
    (∃ c, s.clients[s.issuer]? = some c ∧ ¬ s.CanIssue ∧
      onCommand s body = .next (s.ret s.issuer .refused)) ∨
    (∃ c, s.clients[s.issuer]? = some c ∧ s.CanIssue ∧
      onCommand s body = .next (body s.issuer c)) := by
  by_cases h : s.CanIssue
  · obtain ⟨c, hc, he⟩ := onCommand_of_canIssue h body
    exact .inr (.inr ⟨c, hc, h, he⟩)
  · have hr : ¬ s.ready = true := fun hr => h (s.canIssue_iff_ready.mpr hr)
    cases hc : s.clients[s.issuer]? with
    | none => exact .inl ⟨rfl, by simp [onCommand, hc]⟩
    | some c =>
      refine .inr (.inl ⟨c, rfl, h, ?_⟩)
      simp only [State.ready, hc, Bool.not_eq_true', Bool.not_eq_false] at hr
      simp [onCommand, hc, hr]

/-- In the fatal state every command of an existing requester is refused (60_exceptions.md R347). -/
theorem onCommand_fatal {s : State} (h : s.fatal = true) (hr : s.issuer < s.clients.length)
    (body : Nat → Client → State) : onCommand s body = .next (s.ret s.issuer .refused) := by
  simp [onCommand, List.getElem?_eq_getElem hr, h]

/-- The first fatal fault stores its cause (60_exceptions.md R346). -/
theorem State.raise_eq_faulted {s : State} (c : Cause) (h : s.fatal = false) :
    s.raise c s.issuer = s.faulted c c.code := by
  simp [State.raise, State.faulted, causeAfter, h]

/-- The result on the issuer's port. -/
theorem State.ret_eq_answered (s : State) (res : Result) : s.ret s.issuer res = s.answered res := rfl

/-- REQBUF of the issuer and the result Done. -/
theorem State.appendRequest_eq_requested (s : State) (bs : Bytes) :
    s.appendRequest s.issuer bs = s.requested bs := rfl

/-! ### One requester among others -/

/-- A change of `r` leaves every other requester's registers. -/
theorem State.modClient_other (s : State) {q r : Nat} (f : Client → Client) (h : q ≠ r) :
    (s.modClient r f).clients[q]? = s.clients[q]? := by
  simp [State.modClient, Ne.symm h]

/-- A change of `r` is a change of its registers. -/
theorem State.modClient_self (s : State) (r : Nat) (f : Client → Client) :
    (s.modClient r f).clients[r]? = (s.clients[r]?).map f := by
  simp [State.modClient]

/-- The number of requesters never changes. -/
theorem State.modClient_length (s : State) (r : Nat) (f : Client → Client) :
    (s.modClient r f).clients.length = s.clients.length := by
  simp [State.modClient]

/-- A change that keeps the requester's straps keeps all straps. -/
theorem State.modClient_straps (s : State) (r : Nat) (f : Client → Client)
    (h : ∀ c, (f c).destId = c.destId ∧ (f c).channel = c.channel) :
    (s.modClient r f).straps = s.straps := by
  simp only [State.straps, State.modClient, Prod.mk.injEq, true_and]
  apply List.ext_getElem? 
  intro k
  simp only [List.getElem?_map, List.getElem?_modify]
  cases s.clients[k]? <;> by_cases hk : r = k <;> simp [hk, h]

/-! ### WAITERS -/

theorem mem_waitersInsert (q r : Nat) (ws : List Nat) :
    q ∈ waitersInsert r ws ↔ q = r ∨ q ∈ ws := by
  induction ws with
  | nil => simp [waitersInsert]
  | cons w ws ih =>
    simp only [waitersInsert]
    split
    · simp
    · split
      · rename_i h; subst h; simp
      · simp only [List.mem_cons, ih]; tauto

theorem mem_waitersErase (q r : Nat) (ws : List Nat) :
    q ∈ waitersErase r ws ↔ q ≠ r ∧ q ∈ ws := by
  simp [waitersErase, and_comm]

/-- Inserting keeps the strictly rising form (log 22). -/
theorem waitersInsert_rising {r : Nat} {ws : List Nat} (h : ws.Pairwise (· < ·)) :
    (waitersInsert r ws).Pairwise (· < ·) := by
  induction ws with
  | nil => simp [waitersInsert]
  | cons w ws ih =>
    rw [List.pairwise_cons] at h
    simp only [waitersInsert]
    split
    · rename_i hr
      refine List.pairwise_cons.mpr ⟨?_, List.pairwise_cons.mpr h⟩
      intro q hq
      rcases List.mem_cons.mp hq with rfl | hq
      · exact hr
      · exact hr.trans (h.1 q hq)
    · split
      · exact List.pairwise_cons.mpr h
      · refine List.pairwise_cons.mpr ⟨?_, ih h.2⟩
        intro q hq
        rcases (mem_waitersInsert q r ws).mp hq with rfl | hq
        · omega
        · exact h.1 q hq

/-- Erasing keeps the strictly rising form (log 22). -/
theorem waitersErase_rising {r : Nat} {ws : List Nat} (h : ws.Pairwise (· < ·)) :
    (waitersErase r ws).Pairwise (· < ·) := h.filter _

/-- All the request for the token can do (43_link_manager.md R190 step 1). -/
theorem State.requestToken_cases (op : Option ExOp) (r : Nat) (s : State) :
    (s.token = .held r ∧ s.requestToken op r = s.raise .lockMisuse r) ∨
    (s.token ≠ .held r ∧
      s.requestToken op r =
        { s with
          waiters := waitersInsert r s.waiters
          clients := s.clients.modify r fun c => { c with exOp := op } }) := by
  by_cases h : s.token = .held r
  · exact .inl ⟨h, by simp [State.requestToken, h]⟩
  · exact .inr ⟨h, by simp [State.requestToken, h, State.modClient]⟩

/-! ### The reply map -/

/-- The last write wins, and every other entry stays (45_register_reply_decoder.md R269). -/
theorem ReplyMap.lookup_insert (k j : Nat) (e : Entry) (m : ReplyMap) :
    ReplyMap.lookup j (ReplyMap.insert k e m) =
      if j = k then some e else ReplyMap.lookup j m := by
  induction m with
  | nil => simp [ReplyMap.insert, ReplyMap.lookup]
  | cons p m ih =>
    obtain ⟨k', e'⟩ := p
    simp only [ReplyMap.insert]
    split
    · simp [ReplyMap.lookup]
    · split
      · rename_i h; subst h
        by_cases hj : j = k <;> simp [ReplyMap.lookup, hj]
      · rename_i h1 h2
        by_cases hj : j = k'
        · subst hj; simp [ReplyMap.lookup, Ne.symm h2]
        · simp [ReplyMap.lookup, hj, ih]

theorem ReplyMap.mem_keys_insert {k j : Nat} {e : Entry} {m : ReplyMap}
    (h : j ∈ (ReplyMap.insert k e m).map Prod.fst) : j = k ∨ j ∈ m.map Prod.fst := by
  induction m with
  | nil => simpa [ReplyMap.insert] using h
  | cons p m ih =>
    obtain ⟨k', e'⟩ := p
    simp only [ReplyMap.insert] at h
    split at h
    · simpa using h
    · split at h
      · rename_i hk; subst hk; simp only [List.map_cons, List.mem_cons] at h ⊢; tauto
      · simp only [List.map_cons, List.mem_cons] at h ⊢
        rcases h with h | h
        · exact .inr (.inl h)
        · rcases ih h with h | h
          · exact .inl h
          · exact .inr (.inr h)

/-- Inserting keeps the canonical form (log 22). -/
theorem ReplyMap.insert_wf {k : Nat} {e : Entry} {m : ReplyMap} (h : ReplyMap.wf m) :
    ReplyMap.wf (ReplyMap.insert k e m) := by
  induction m with
  | nil => simp [ReplyMap.insert, ReplyMap.wf]
  | cons p m ih =>
    obtain ⟨k', e'⟩ := p
    simp only [ReplyMap.wf, List.map_cons, List.pairwise_cons] at h ih
    simp only [ReplyMap.insert]
    split
    · rename_i hk
      simp only [ReplyMap.wf, List.map_cons, List.pairwise_cons]
      refine ⟨?_, h⟩
      intro q hq
      rcases List.mem_cons.mp hq with rfl | hq
      · exact hk
      · exact hk.trans (h.1 q hq)
    · split
      · rename_i hk; subst hk
        simpa only [ReplyMap.wf, List.map_cons, List.pairwise_cons] using h
      · simp only [ReplyMap.wf, List.map_cons, List.pairwise_cons]
        refine ⟨?_, ih h.2⟩
        intro q hq
        rcases ReplyMap.mem_keys_insert hq with rfl | hq
        · omega
        · exact h.1 q hq

/-- Every memory operation over REPLY keeps the canonical form. -/
theorem ReplyMap.insertAll_wf {es : List (Nat × Entry)} {m : ReplyMap} (h : ReplyMap.wf m) :
    ReplyMap.wf (ReplyMap.insertAll es m) := by
  induction es generalizing m with
  | nil => exact h
  | cons p es ih => exact ih (ReplyMap.insert_wf h)

/-- REPLY after reset has the canonical form. -/
theorem reset_reply_wf : ReplyMap.wf State.reset.reply := by
  simp [State.reset, State.initial, ReplyMap.wf]

end Sys2Proof.Machine
end

