-- ==== Sys2Proof/Laws/Codec.lean ====
section
/-! SUPPORT. What the readers of the codec can do, each said once: the varuint decoder's bounds, the field
readers, the parse. -/

namespace Sys2Proof

/-- What a run of VU_DEC leaves: at most five bytes counted, seven bits a byte, and a value ends within
the source (40_varuint.md R134). -/
theorem vuDecLoop_bounds (n : Nat) (s : Bytes) (i : Nat) (r : VuRegs)
    (hn : r.cnt.toNat + n ≤ 5) (hs : r.shift.toNat = 7 * r.cnt.toNat) :
    (vuDecLoop n s i r).2.cnt.toNat ≤ 5 ∧
    (vuDecLoop n s i r).2.shift.toNat = 7 * (vuDecLoop n s i r).2.cnt.toNat ∧
    ∀ v k, (vuDecLoop n s i r).1 = .value v k → 1 ≤ k ∧ k ≤ 5 ∧ i + k ≤ s.length := by
  induction n generalizing r with
  | zero => exact ⟨by simpa [vuDecLoop] using hn, by simpa [vuDecLoop] using hs, by simp [vuDecLoop]⟩
  | succ n ih =>
    have hc : (r.cnt + 1).toNat = r.cnt.toNat + 1 := by
      rw [BitVec.toNat_add]; simp; omega
    have hs' : (r.shift + 7).toNat = 7 * (r.cnt + 1).toNat := by
      rw [BitVec.toNat_add, hc, hs]; simp; omega
    simp only [vuDecLoop]
    split
    · refine ⟨by simp only; omega, hs, ?_⟩
      intro v k h
      simp only at h
      split at h <;> simp at h
    · rename_i b hb
      have hlt := (List.getElem?_eq_some_iff.mp hb).1
      split
      · refine ⟨by simp only; omega, hs', ?_⟩
        intro v k h
        simp only [VuResult.value.injEq] at h
        omega
      · split
        · refine ⟨by simp only; omega, hs', by simp⟩
        · exact ih ⟨_, r.shift + 7, r.cnt + 1⟩ (by simp only; omega) hs'

/-- VU_DEC's bounds (40_varuint.md R134). -/
theorem vuDec_bounds (s : Bytes) (i : Nat) :
    (vuDec s i).2.cnt.toNat ≤ 5 ∧ (vuDec s i).2.shift.toNat = 7 * (vuDec s i).2.cnt.toNat ∧
    ∀ v k, (vuDec s i).1 = .value v k → 1 ≤ k ∧ k ≤ 5 ∧ i + k ≤ s.length :=
  vuDecLoop_bounds 5 s i VuRegs.zero (by simp [VuRegs.zero]) (by simp [VuRegs.zero])

/-- What a parser keeps: its bytes, a cursor inside them that never goes back
(45_register_reply_decoder.md R266), and a varuint scratch in range. -/
def Reader.Leads (rd rd' : Reader) : Prop :=
  rd'.pay = rd.pay ∧ rd.cur ≤ rd'.cur ∧ (rd.cur ≤ rd.pay.length → rd'.cur ≤ rd'.pay.length) ∧
  ((rd.vu.cnt.toNat ≤ 5 ∧ rd.vu.shift.toNat = 7 * rd.vu.cnt.toNat) →
    rd'.vu.cnt.toNat ≤ 5 ∧ rd'.vu.shift.toNat = 7 * rd'.vu.cnt.toNat)

theorem Reader.leads_refl (rd : Reader) : rd.Leads rd := ⟨rfl, le_refl _, id, id⟩

theorem Reader.Leads.trans {a b c : Reader} (h : a.Leads b) (k : b.Leads c) : a.Leads c := by
  obtain ⟨h1, h2, h3, h4⟩ := h
  obtain ⟨k1, k2, k3, k4⟩ := k
  refine ⟨k1.trans h1, h2.trans k2, fun x => k3 (h3 x), fun x => k4 (h4 x)⟩

theorem rdVu_leads (rd : Reader) : rd.Leads (rdVu rd).2 := by
  have hb := vuDec_bounds rd.pay rd.cur
  unfold rdVu
  cases hd : vuDec rd.pay rd.cur with
  | mk res vu =>
    rw [hd] at hb
    cases res with
    | value v n =>
      have := hb.2.2 v n rfl
      exact ⟨rfl, by simp, fun _ => this.2.2, fun _ => ⟨hb.1, hb.2.1⟩⟩
    | noData => exact ⟨rfl, by simp, id, fun _ => ⟨hb.1, hb.2.1⟩⟩
    | truncated => exact ⟨rfl, by simp, id, fun _ => ⟨hb.1, hb.2.1⟩⟩
    | overlong => exact ⟨rfl, by simp, id, fun _ => ⟨hb.1, hb.2.1⟩⟩

theorem rdDisc_leads (rd : Reader) : rd.Leads (rdDisc rd).2 := by
  have hb := vuDec_bounds rd.pay rd.cur
  unfold rdDisc
  cases hd : vuDec rd.pay rd.cur with
  | mk res vu =>
    rw [hd] at hb
    cases res with
    | value v n =>
      have := hb.2.2 v n rfl
      exact ⟨rfl, by simp, fun _ => this.2.2, fun _ => ⟨hb.1, hb.2.1⟩⟩
    | noData => exact ⟨rfl, by simp, id, fun _ => ⟨hb.1, hb.2.1⟩⟩
    | truncated => exact ⟨rfl, by simp, id, fun _ => ⟨hb.1, hb.2.1⟩⟩
    | overlong => exact ⟨rfl, by simp, id, fun _ => ⟨hb.1, hb.2.1⟩⟩

/-- A field after a field. -/
theorem Read.bind_leads {α β : Type} {rd : Reader} {p : Read α} {f : α → Reader → Read β}
    (hp : rd.Leads p.2) (hf : ∀ a rd', rd.Leads rd' → rd.Leads (f a rd').2) :
    rd.Leads (Read.bind p f).2 := by
  obtain ⟨a | a, rd'⟩ := p
  · exact hp
  · exact hf a rd' hp

theorem rdU32_leads (rd : Reader) : rd.Leads (rdU32 rd).2 := by
  refine Read.bind_leads (rdVu_leads rd) fun v rd' h => ?_
  split <;> exact h

theorem rdBytes_leads (n : Nat) (rd : Reader) : rd.Leads (rdBytes n rd).2 := by
  unfold rdBytes
  split
  · exact ⟨rfl, by simp, fun _ => ‹_›, id⟩
  · exact rd.leads_refl

theorem rdVal_leads (t : TypeTag) (rd : Reader) : rd.Leads (rdVal t rd).2 :=
  Read.bind_leads (rdBytes_leads _ rd) fun _ _ h => h

theorem rdVals_leads (t : TypeTag) (n count : Nat) (rd : Reader) :
    rd.Leads (rdVals t n count rd).2 := by
  induction n generalizing count rd with
  | zero => exact rd.leads_refl
  | succ n ih =>
    cases count with
    | zero => exact rd.leads_refl
    | succ count =>
      have hv := rdVal_leads t rd
      simp only [rdVals]
      cases h : rdVal t rd with
      | mk res rd' =>
        rw [h] at hv
        cases res with
        | ok v => exact hv.trans (ih count rd')
        | error e => exact hv

/-- The fields after a discriminator (30_encoding.md R99). -/
theorem decodeFields_leads (k : SubKind) (rd : Reader) : rd.Leads (decodeFields k rd).2 := by
  cases k <;> simp only [decodeFields]
  case writeSingle t =>
    exact Read.bind_leads (rdU32_leads rd) fun _ r1 h1 =>
      h1.trans (Read.bind_leads (rdVal_leads t r1) fun _ _ h2 => h2)
  case writeMultiple t =>
    refine Read.bind_leads (rdU32_leads rd) fun _ r1 h1 =>
      h1.trans (Read.bind_leads (rdU32_leads r1) fun count r2 h2 => ?_)
    have h3 := rdVals_leads t r2.pay.length count.toNat r2
    split <;> exact h2.trans h3
  case readSingle t => exact Read.bind_leads (rdU32_leads rd) fun _ _ h1 => h1
  case readMultiple t =>
    exact Read.bind_leads (rdU32_leads rd) fun _ r1 h1 =>
      h1.trans (Read.bind_leads (rdU32_leads r1) fun _ _ h2 => h2)
  case replySingle t =>
    exact Read.bind_leads (rdVu_leads rd) fun _ r1 h1 =>
      h1.trans (Read.bind_leads (rdVal_leads t r1) fun _ _ h2 => h2)
  case replyMultiple t =>
    exact Read.bind_leads (rdVu_leads rd) fun _ r1 h1 =>
      h1.trans (Read.bind_leads (rdVu_leads r1) fun count r2 h2 =>
        h2.trans (rdVals_leads t r2.pay.length count.toNat r2))
  case writeError =>
    exact Read.bind_leads (rdVu_leads rd) fun _ r1 h1 =>
      h1.trans (Read.bind_leads (rdVu_leads r1) fun _ _ h2 => h2)
  case readError =>
    exact Read.bind_leads (rdVu_leads rd) fun _ r1 h1 =>
      h1.trans (Read.bind_leads (rdVu_leads r1) fun _ _ h2 => h2)
  case streamC2s =>
    exact Read.bind_leads (rdU32_leads rd) fun _ r1 h1 =>
      h1.trans (Read.bind_leads (rdU32_leads r1) fun len r2 h2 =>
        h2.trans (Read.bind_leads (rdBytes_leads _ r2) fun _ _ h3 => h3))
  case streamS2c =>
    exact Read.bind_leads (rdVu_leads rd) fun _ r1 h1 =>
      h1.trans (Read.bind_leads (rdVu_leads r1) fun len r2 h2 =>
        h2.trans (Read.bind_leads (rdBytes_leads _ r2) fun _ _ h3 => h3))

theorem decodeSub_leads (rd : Reader) : rd.Leads (decodeSub rd).2 := by
  refine Read.bind_leads (rdDisc_leads rd) fun id r1 h1 => ?_
  split
  · exact h1.trans (decodeFields_leads _ r1)
  · exact h1

end Sys2Proof

namespace Sys2Proof.Machine

open Sys2Proof

theorem decodeReply_leads (rd : Reader) : rd.Leads (decodeReply rd).2 := by
  refine Read.bind_leads (rdDisc_leads rd) fun id r1 h1 => ?_
  split
  · split
    · exact h1.trans (decodeFields_leads _ r1)
    · exact h1
  · exact h1

/-- The parse keeps REPLY in its canonical form and the cursor inside the payload. -/
theorem parseLoop_keeps (n : Nat) (rd : Reader) (m : ReplyMap) :
    rd.Leads (parseLoop n rd m).2.1 ∧
    (ReplyMap.wf m → ReplyMap.wf (parseLoop n rd m).2.2) := by
  induction n generalizing rd m with
  | zero => exact ⟨rd.leads_refl, id⟩
  | succ n ih =>
    have hr := decodeReply_leads rd
    simp only [parseLoop]
    cases h : decodeReply rd with
    | mk res rd' =>
      rw [h] at hr
      cases res with
      | error e => exact ⟨hr, id⟩
      | ok i =>
        dsimp only
        split
        · exact ⟨hr, fun hm => ReplyMap.insertAll_wf hm⟩
        · have := ih rd' (ReplyMap.insertAll (replyEntries i) m)
          exact ⟨hr.trans this.1, fun hm => this.2 (ReplyMap.insertAll_wf hm)⟩

/-- All a parse leaves (45_register_reply_decoder.md R265): the payload, a cursor inside it, REPLY in its
canonical form. -/
theorem parsePayload_keeps (payload : Bytes) :
    (parsePayload payload).2.1.cur ≤ payload.length ∧
    (parsePayload payload).2.1.pay = payload ∧
    ReplyMap.wf (parsePayload payload).2.2 := by
  have h := parseLoop_keeps (payload.length + 1) (Reader.start payload) []
  have hp : (parsePayload payload).2.1.pay = payload := h.1.1
  have hc : (parsePayload payload).2.1.cur ≤ (parsePayload payload).2.1.pay.length :=
    h.1.2.2.1 (Nat.zero_le _)
  rw [hp] at hc
  exact ⟨hc, hp, h.2 (by simp [ReplyMap.wf])⟩

end Sys2Proof.Machine
end

