-- ==== Sys2Proof/Laws/Link.lean ====
section
/-! SUPPORT. What the link arbiter's steps can do, each said once: the grant, the engines, the end of a
read, the exchange's step. -/

namespace Sys2Proof.Machine

open Sys2Proof

/-! ### The grant and the transmit side -/

/-- All the grant can do (43_link_manager.md R190 step 2). -/
theorem State.grant_cases (r : Nat) (s : State) :
    s.grant r = s ∨
    (s.fatal = false ∧ s.token = .free ∧ r ∈ s.waiters ∧
      ((s.clients[r]?).bind Client.exOp = none ∧
        s.grant r =
          { s with
            token := .held r, waiters := waitersErase r s.waiters
            results := s.results ++ [(r, .granted)] } ∨
       (s.clients[r]?).bind Client.exOp ≠ none ∧
        s.grant r =
          { s with
            token := .held r, waiters := waitersErase r s.waiters
            clients := s.clients.modify r fun c =>
              { c with exs := .token, written := false, cancelled := false } })) := by
  unfold State.grant
  split
  · exact .inl rfl
  · rename_i hf
    split
    · rename_i h
      refine .inr ⟨by simpa using hf, h.1, h.2, ?_⟩
      cases he : (s.clients[r]?).bind Client.exOp with
      | none => exact .inl ⟨rfl, rfl⟩
      | some op => exact .inr ⟨by simp, rfl⟩
    · exact .inl rfl

/-- All the TX engine can do (43_link_manager.md R195). -/
theorem State.txWrite_cases (s : State) :
    s.txWrite = s ∨
    (s.fatal = false ∧ s.drs = .write ∧
      s.txWrite = { s with wire := s.wire ++ s.txflight, txflight := [], drs := .flush }) := by
  unfold State.txWrite
  split
  · exact .inl rfl
  · rename_i hf
    split
    · exact .inr ⟨by simpa using hf, ‹_›, rfl⟩
    · exact .inl rfl

/-- All that follows a completed drain (43_link_manager.md R196, R197; 47_exchange.md R316). -/
theorem State.drained_cases (r : Nat) (c : Client) (s : State) :
    (c.cancelled = true ∧ s.drained r c = s.endCommand r (cancelResult c.exOp)) ∨
    (c.cancelled = false ∧ c.exOp = none ∧ s.drained r c = s.ret r .done) ∨
    (∃ op, c.cancelled = false ∧ c.exOp = some op ∧ op.hasReply = true ∧
      s.drained r c =
        (s.modClient r fun c => { c with exs := .await }).acceptRead r (some c.destId)) ∨
    (∃ op, c.cancelled = false ∧ c.exOp = some op ∧ op.hasReply = false ∧
      s.drained r c = s.modClient r fun c => { c with exs := .sent }) := by
  unfold State.drained
  cases hc : c.cancelled with
  | true => exact .inl ⟨rfl, rfl⟩
  | false =>
    cases he : c.exOp with
    | none => exact .inr (.inl ⟨rfl, rfl, rfl⟩)
    | some op =>
      cases ho : op.hasReply with
      | true => exact .inr (.inr (.inl ⟨op, rfl, rfl, ho, by simp [ho]⟩))
      | false => exact .inr (.inr (.inr ⟨op, rfl, rfl, ho, by simp [ho]⟩))

/-- All `tx_flushed` can do (43_link_manager.md R196). -/
theorem State.txFlushed_cases (s : State) :
    s.txFlushed = s ∨
    (s.fatal = false ∧ s.drs = .flush ∧
      ((∃ r c, s.drOwner = some r ∧ s.clients[r]? = some c ∧
        s.txFlushed = { s with drs := .idle, drOwner := none }.drained r c) ∨
       (s.txFlushed = { s with drs := .idle, drOwner := none } ∧
        ∀ r, s.drOwner = some r → s.clients[r]? = none))) := by
  unfold State.txFlushed
  split
  · exact .inl rfl
  · rename_i hf
    split
    · rename_i hd
      refine .inr ⟨by simpa using hf, hd, ?_⟩
      cases ho : s.drOwner with
      | none => exact .inr ⟨rfl, by simp⟩
      | some r =>
        cases hc : s.clients[r]? with
        | none => exact .inr ⟨by simp [hc], by rintro q ⟨⟩; exact hc⟩
        | some c => exact .inl ⟨r, c, rfl, hc, by simp [hc]⟩
    · exact .inl rfl

/-- All the exchange's own step can do (47_exchange.md step 2, R316). -/
theorem State.exchangeStep_cases (r : Nat) (s : State) :
    s.exchangeStep r = s ∨
    (s.fatal = false ∧ ∃ c, s.clients[r]? = some c ∧
      ((∃ op, c.exs = .token ∧ c.exOp = some op ∧ s.token = .held r ∧ c.written = true ∧
          s.drs = .idle ∧ s.exchangeStep r = s.startDrain r) ∨
       (∃ op, c.exs = .token ∧ c.exOp = some op ∧ s.token = .held r ∧ c.written = false ∧
          s.exchangeStep r = s.writeExchangeFrame op r c) ∨
       (c.exs = .sent ∧ (c.exOp = some .registerWrite ∨ c.exOp = some .streamDrain) ∧
          s.exchangeStep r = s.endCommand r .done) ∨
       (∃ op res, c.exs = .decoded ∧ c.exOp = some op ∧ c.outcome = some res ∧
          s.exchangeStep r = s.endCommand r res))) := by
  unfold State.exchangeStep
  split
  · exact .inl rfl
  · rename_i hf
    cases hc : s.clients[r]? with
    | none => exact .inl rfl
    | some c =>
      have hf' : s.fatal = false := by simpa using hf
      dsimp only
      split
      · rename_i op hx ho
        split
        · rename_i ht
          split
          · rename_i hw
            split
            · exact .inr ⟨hf', c, rfl, .inl ⟨op, hx, ho, ht, hw, ‹_›, rfl⟩⟩
            · exact .inl rfl
          · rename_i hw
            exact .inr ⟨hf', c, rfl, .inr (.inl ⟨op, hx, ho, ht, by simpa using hw, rfl⟩)⟩
        · exact .inl rfl
      · rename_i hx ho
        exact .inr ⟨hf', c, rfl, .inr (.inr (.inl ⟨hx, .inl ho, rfl⟩))⟩
      · rename_i hx ho
        exact .inr ⟨hf', c, rfl, .inr (.inr (.inl ⟨hx, .inr ho, rfl⟩))⟩
      · rename_i op hx ho
        split
        · rename_i res hres
          exact .inr ⟨hf', c, rfl, .inr (.inr (.inr ⟨op, res, hx, ho, hres, rfl⟩))⟩
        · exact .inl rfl
      · exact .inl rfl

/-! ### The receive side -/

/-- All the end of a read can do (43_link_manager.md R203, R206, R210; 47_exchange.md R321). -/
theorem State.endRead_cases (e : ReadEnd) (s : State) :
    (s.endRead e = { s with rx := { s.rx with state := .idle, owner := none } } ∧
      ∀ r, s.rx.owner = some r → s.clients[r]? = none) ∨
    (∃ r c, s.rx.owner = some r ∧ s.clients[r]? = some c ∧ c.exOp = none ∧
      s.endRead e = { s with rx := { s.rx with state := .idle, owner := none } }.bareRead r e) ∨
    (∃ r c op, s.rx.owner = some r ∧ s.clients[r]? = some c ∧ c.exOp = some op ∧
      s.endRead e =
        { s with rx := { s.rx with state := .idle, owner := none } }.exchangeRead op r c e) := by
  unfold State.endRead
  cases ho : s.rx.owner with
  | none => exact .inl ⟨rfl, by simp⟩
  | some r =>
    cases hc : s.clients[r]? with
    | none => exact .inl ⟨by simp [hc], by rintro q ⟨⟩; exact hc⟩
    | some c =>
      cases hx : c.exOp with
      | none => exact .inr (.inl ⟨r, c, rfl, hc, hx, by simp [hc, hx]⟩)
      | some op => exact .inr (.inr ⟨r, c, op, rfl, hc, hx, by simp [hc, hx]⟩)

/-- All a byte step can do (43_link_manager.md R201). -/
theorem State.rxByte_cases (s : State) :
    s.rxByte = s ∨
    (s.fatal = false ∧ s.rx.state ≠ .idle ∧
      ∃ b q, s.rxq = b :: q ∧ s.rxByte = { s with rxq := q }.rxTake b) := by
  unfold State.rxByte
  split
  · exact .inl rfl
  · rename_i hf
    split
    · exact .inl rfl
    · rename_i hi
      cases hq : s.rxq with
      | nil => exact .inl rfl
      | cons b q => exact .inr ⟨by simpa using hf, hi, b, q, rfl, rfl⟩

/-- Bytes arrive one after another. -/
theorem State.deliver_append (a b : Bytes) (s : State) :
    s.deliver (a ++ b) = (s.deliver a).deliver b := by
  simp [State.deliver]

/-- With no read pending, or FATAL = 1, delivered bytes wait in RXQ (43_link_manager.md R201). -/
theorem State.deliver_waits {s : State} (h : s.fatal = true ∨ s.rx.state = .idle) (bs : Bytes) :
    s.deliver bs = { s with rxq := s.rxq ++ bs } := by
  induction bs generalizing s with
  | nil => simp [State.deliver]
  | cons b bs ih =>
    have hb : (s.rxArrive b).rxByte = { s with rxq := s.rxq ++ [b] } := by
      unfold State.rxByte State.rxArrive
      rcases h with h | h <;> simp [h]
    have := ih (s := { s with rxq := s.rxq ++ [b] }) (by simpa using h)
    simp only [State.deliver, List.foldl_cons, hb] at this ⊢
    rw [this]
    simp

end Sys2Proof.Machine
end

