-- ==== Sys2Proof/Laws/PerInstr.lean ====
section
/-! SUPPORT. Statements about every instruction, one lemma per constructor. -/

namespace Sys2Proof.Laws

open Sys2Proof

/-- The code of an instruction's row in spec/opcode_table.json: the magic of a frame in wire order
(30_encoding.md R90), a sub-frame's discriminator (R103), a host command's label (R120). -/
def codeBytes : Instr → Bytes
  | .frame _ _ _ _ => [0x54, 0xAB]
  | .writeSingleInt8 _ _ => [0x10]
  | .writeSingleInt16 _ _ => [0x11]
  | .writeSingleInt32 _ _ => [0x12]
  | .writeSingleFloat _ _ => [0x13]
  | .writeMultipleInt8 _ _ => [0x14]
  | .writeMultipleInt16 _ _ => [0x15]
  | .writeMultipleInt32 _ _ => [0x16]
  | .writeMultipleFloat _ _ => [0x17]
  | .readSingleInt8 _ => [0x18]
  | .readSingleInt16 _ => [0x19]
  | .readSingleInt32 _ => [0x1A]
  | .readSingleFloat _ => [0x1B]
  | .readMultipleInt8 _ _ => [0x1C]
  | .readMultipleInt16 _ _ => [0x1D]
  | .readMultipleInt32 _ _ => [0x1E]
  | .readMultipleFloat _ _ => [0x1F]
  | .replySingleInt8 _ _ => [0x20]
  | .replySingleInt16 _ _ => [0x21]
  | .replySingleInt32 _ _ => [0x22]
  | .replySingleFloat _ _ => [0x23]
  | .replyMultipleInt8 _ _ _ => [0x24]
  | .replyMultipleInt16 _ _ _ => [0x25]
  | .replyMultipleInt32 _ _ _ => [0x26]
  | .replyMultipleFloat _ _ _ => [0x27]
  | .writeError _ _ => [0x28]
  | .readError _ _ => [0x29]
  | .streamC2s _ _ => [0x40]
  | .streamS2c _ _ => [0x41]
  | .vuEnc _ => [0x01]
  | .vuDec _ => [0x02]
  | .crc16 _ => [0x03]
  | .frameEnc _ _ _ _ => [0x04]
  | .frameDec _ => [0x05]
  | .lockAcquire => [0x10]
  | .lockRelease => [0x11]
  | .lmWrite _ => [0x12]
  | .lmDrain => [0x13]
  | .lmReadFrame _ => [0x14]
  | .rqClear => [0x20]
  | .rqReadSingle _ _ => [0x21]
  | .rqReadMultiple _ _ _ => [0x22]
  | .rqWriteSingle _ _ => [0x23]
  | .rqWriteMultiple _ _ => [0x24]
  | .parseRegisterReply _ => [0x28]
  | .registerQuery => [0x30]
  | .registerWrite => [0x31]
  | .streamWrite _ => [0x38]
  | .streamDrain => [0x39]
  | .streamPoll => [0x3A]
  | .streamTake _ => [0x3B]

/-- The encoding of an instruction begins with its code. -/
def CodeByte.Statement (i : Instr) : Prop := (encode i).take (codeBytes i).length = codeBytes i

theorem CodeByte.frame (src dst : Byte) (payload : Bytes) (crc : BitVec 16) :
    CodeByte.Statement (.frame src dst payload crc) := rfl
theorem CodeByte.writeSingleInt8 (reg : U32) (b : BitVec 8) :
    CodeByte.Statement (.writeSingleInt8 reg b) := rfl
theorem CodeByte.writeSingleInt16 (reg : U32) (b : BitVec 16) :
    CodeByte.Statement (.writeSingleInt16 reg b) := rfl
theorem CodeByte.writeSingleInt32 (reg : U32) (b : BitVec 32) :
    CodeByte.Statement (.writeSingleInt32 reg b) := rfl
theorem CodeByte.writeSingleFloat (reg : U32) (b : BitVec 32) :
    CodeByte.Statement (.writeSingleFloat reg b) := rfl
theorem CodeByte.writeMultipleInt8 (start : U32) (vals : List (BitVec 8)) :
    CodeByte.Statement (.writeMultipleInt8 start vals) := rfl
theorem CodeByte.writeMultipleInt16 (start : U32) (vals : List (BitVec 16)) :
    CodeByte.Statement (.writeMultipleInt16 start vals) := rfl
theorem CodeByte.writeMultipleInt32 (start : U32) (vals : List (BitVec 32)) :
    CodeByte.Statement (.writeMultipleInt32 start vals) := rfl
theorem CodeByte.writeMultipleFloat (start : U32) (vals : List (BitVec 32)) :
    CodeByte.Statement (.writeMultipleFloat start vals) := rfl
theorem CodeByte.readSingleInt8 (reg : U32) : CodeByte.Statement (.readSingleInt8 reg) := rfl
theorem CodeByte.readSingleInt16 (reg : U32) : CodeByte.Statement (.readSingleInt16 reg) := rfl
theorem CodeByte.readSingleInt32 (reg : U32) : CodeByte.Statement (.readSingleInt32 reg) := rfl
theorem CodeByte.readSingleFloat (reg : U32) : CodeByte.Statement (.readSingleFloat reg) := rfl
theorem CodeByte.readMultipleInt8 (reg count : U32) :
    CodeByte.Statement (.readMultipleInt8 reg count) := rfl
theorem CodeByte.readMultipleInt16 (reg count : U32) :
    CodeByte.Statement (.readMultipleInt16 reg count) := rfl
theorem CodeByte.readMultipleInt32 (reg count : U32) :
    CodeByte.Statement (.readMultipleInt32 reg count) := rfl
theorem CodeByte.readMultipleFloat (reg count : U32) :
    CodeByte.Statement (.readMultipleFloat reg count) := rfl
theorem CodeByte.replySingleInt8 (reg : VuValue) (b : BitVec 8) :
    CodeByte.Statement (.replySingleInt8 reg b) := rfl
theorem CodeByte.replySingleInt16 (reg : VuValue) (b : BitVec 16) :
    CodeByte.Statement (.replySingleInt16 reg b) := rfl
theorem CodeByte.replySingleInt32 (reg : VuValue) (b : BitVec 32) :
    CodeByte.Statement (.replySingleInt32 reg b) := rfl
theorem CodeByte.replySingleFloat (reg : VuValue) (b : BitVec 32) :
    CodeByte.Statement (.replySingleFloat reg b) := rfl
theorem CodeByte.replyMultipleInt8 (start count : VuValue) (vals : List (BitVec 8)) :
    CodeByte.Statement (.replyMultipleInt8 start count vals) := rfl
theorem CodeByte.replyMultipleInt16 (start count : VuValue) (vals : List (BitVec 16)) :
    CodeByte.Statement (.replyMultipleInt16 start count vals) := rfl
theorem CodeByte.replyMultipleInt32 (start count : VuValue) (vals : List (BitVec 32)) :
    CodeByte.Statement (.replyMultipleInt32 start count vals) := rfl
theorem CodeByte.replyMultipleFloat (start count : VuValue) (vals : List (BitVec 32)) :
    CodeByte.Statement (.replyMultipleFloat start count vals) := rfl
theorem CodeByte.writeError (reg code : VuValue) : CodeByte.Statement (.writeError reg code) := rfl
theorem CodeByte.readError (reg code : VuValue) : CodeByte.Statement (.readError reg code) := rfl
theorem CodeByte.streamC2s (channel : U32) (data : Bytes) :
    CodeByte.Statement (.streamC2s channel data) := rfl
theorem CodeByte.streamS2c (channel : VuValue) (data : Bytes) :
    CodeByte.Statement (.streamS2c channel data) := rfl
theorem CodeByte.vuEnc (value : U32) : CodeByte.Statement (.vuEnc value) := rfl
theorem CodeByte.vuDec (src : Bytes) : CodeByte.Statement (.vuDec src) := rfl
theorem CodeByte.crc16 (data : Bytes) : CodeByte.Statement (.crc16 data) := rfl
theorem CodeByte.frameEnc (srcId : Id7) (rr : Bool) (dstId : Id7) (payload : Bytes) :
    CodeByte.Statement (.frameEnc srcId rr dstId payload) := rfl
theorem CodeByte.frameDec (data : Bytes) : CodeByte.Statement (.frameDec data) := rfl
theorem CodeByte.lockAcquire : CodeByte.Statement .lockAcquire := rfl
theorem CodeByte.lockRelease : CodeByte.Statement .lockRelease := rfl
theorem CodeByte.lmWrite (data : Bytes) : CodeByte.Statement (.lmWrite data) := rfl
theorem CodeByte.lmDrain : CodeByte.Statement .lmDrain := rfl
theorem CodeByte.lmReadFrame (onlyFrom : Option Id7) :
    CodeByte.Statement (.lmReadFrame onlyFrom) := by cases onlyFrom <;> rfl
theorem CodeByte.rqClear : CodeByte.Statement .rqClear := rfl
theorem CodeByte.rqReadSingle (reg : U32) (ty : TypeTag) :
    CodeByte.Statement (.rqReadSingle reg ty) := rfl
theorem CodeByte.rqReadMultiple (reg count : U32) (ty : TypeTag) :
    CodeByte.Statement (.rqReadMultiple reg count ty) := rfl
theorem CodeByte.rqWriteSingle (reg : U32) (value : TV) :
    CodeByte.Statement (.rqWriteSingle reg value) := rfl
theorem CodeByte.rqWriteMultiple (start : U32) (values : List TV) :
    CodeByte.Statement (.rqWriteMultiple start values) := rfl
theorem CodeByte.parseRegisterReply (payload : Bytes) :
    CodeByte.Statement (.parseRegisterReply payload) := rfl
theorem CodeByte.registerQuery : CodeByte.Statement .registerQuery := rfl
theorem CodeByte.registerWrite : CodeByte.Statement .registerWrite := rfl
theorem CodeByte.streamWrite (data : Bytes) : CodeByte.Statement (.streamWrite data) := rfl
theorem CodeByte.streamDrain : CodeByte.Statement .streamDrain := rfl
theorem CodeByte.streamPoll : CodeByte.Statement .streamPoll := rfl
theorem CodeByte.streamTake (size : Nat) : CodeByte.Statement (.streamTake size) := rfl

end Sys2Proof.Laws
end

