-- ==== Sys2Proof/Tests/Slice0.lean ====
section
/-! SUPPORT. Tests: the operand checks, a word for each row, small steps from the vectors of
spec/95_test_vectors.md, and a witness for the hypotheses of each statement. -/

namespace Sys2Proof.Tests

open Sys2Proof Sys2Proof.Machine

set_option synthInstance.maxSize 1000000
set_option synthInstance.maxHeartbeats 400000
set_option maxRecDepth 20000

/-! ### Helpers -/

/-- Two requesters, ids 5 and 6 on channels 1 and 2, right after reset. -/
def base : State := State.initial 0 false 8192 [(5, 1), (6, 2)]

/-- The same with the token at requester 0. -/
def holder : State := { base with token := .held 0 }

/-- The same after a fatal fault. -/
def dead : State := { base with fatal := true, cause := 1 }

/-- Requester 0 with other registers. -/
def withClient (f : Client → Client) : State := { base with clients := base.clients.modify 0 f }

/-- A bare read of requester 0 at a frame start. -/
def reading : State :=
  { holder with rx := { RxEngine.fresh with state := .hdr, owner := some 0 } }

/-- A REGISTER_QUERY of requester 0 waiting for its reply. -/
def querying : State :=
  { holder with
    clients := base.clients.modify 0 fun c =>
      { c with exs := .await, exOp := some .registerQuery, written := true }
    rx := { RxEngine.fresh with state := .hdr, owner := some 0, filter := some 5 } }

/-- The same with a STREAM_POLL. -/
def polling : State :=
  { querying with
    clients := base.clients.modify 0 fun c =>
      { c with exs := .await, exOp := some .streamPoll, written := true } }

/-- A STREAM_POLL of requester 0 whose reply has been decoded: one byte appended to RDBUF. -/
def decodedPoll : State :=
  { holder with
    clients := base.clients.modify 0 fun c =>
      { c with exs := .decoded, exOp := some .streamPoll, written := true, rdbuf := [0x74, 0x65]
               outcome := some (.appended 1) } }

/-- An exchange of requester 0 in a state before its reply. -/
def running (op : ExOp) (exs : ExState) : State :=
  { holder with clients := base.clients.modify 0 fun c => { c with exs := exs, exOp := some op } }

/-- A drain of requester 0 written and not yet flushed. -/
def flushing : State := { holder with drs := .flush, drOwner := some 0 }

/-- A bare read with other receive registers and pending bytes. -/
def readingAt (rxq : Bytes) (f : RxEngine → RxEngine) : State :=
  { reading with rxq := rxq, rx := f reading.rx }

/-- The client of `base` at requester 0, with other registers. -/
def client0 (f : Client → Client) : Client := f (Client.fresh 5 1)

/-- The next state, if there is one. -/
def next? (o : Out) : Option State :=
  match o with
  | .next t => some t
  | .fault _ => none
  | .refused _ => none

/-- The last result of an instruction run on `s`. -/
def answer (i : Instr) (s : State) : Option (Nat × Result) :=
  (next? (exec i s)).bind fun t => t.results.getLast?

/-- REQBUF of requester 0 after an instruction. -/
def request (i : Instr) : Option Bytes :=
  ((next? (exec i base)).bind fun t => t.clients[0]?).map Client.reqbuf

/-- REPLY after an instruction. -/
def replies (i : Instr) : Option ReplyMap := (next? (exec i base)).map State.reply

/-! ### The operand checks refuse ill-formed terms -/

theorem test_wf_frame : (Instr.frame 0 0 (List.replicate 256 0) 0).wf = false := by decide
theorem test_wf_parse : (Instr.parseRegisterReply (List.replicate 256 0)).wf = false := by decide
theorem test_wf_writeMultipleInt8 : (Instr.writeMultipleInt8 0 (List.replicate (2 ^ 32) 0)).wf = false := by
  simp only [Instr.wf, List.length_replicate]; decide
theorem test_wf_replyMultipleInt8 : (Instr.replyMultipleInt8 0 1 [0, 0]).wf = false := by decide
theorem test_wf_writeMultipleInt16 : (Instr.writeMultipleInt16 0 (List.replicate (2 ^ 32) 0)).wf = false := by
  simp only [Instr.wf, List.length_replicate]; decide
theorem test_wf_replyMultipleInt16 : (Instr.replyMultipleInt16 0 1 [0, 0]).wf = false := by decide
theorem test_wf_writeMultipleInt32 : (Instr.writeMultipleInt32 0 (List.replicate (2 ^ 32) 0)).wf = false := by
  simp only [Instr.wf, List.length_replicate]; decide
theorem test_wf_replyMultipleInt32 : (Instr.replyMultipleInt32 0 1 [0, 0]).wf = false := by decide
theorem test_wf_writeMultipleFloat : (Instr.writeMultipleFloat 0 (List.replicate (2 ^ 32) 0)).wf = false := by
  simp only [Instr.wf, List.length_replicate]; decide
theorem test_wf_replyMultipleFloat : (Instr.replyMultipleFloat 0 1 [0, 0]).wf = false := by decide
theorem test_wf_rqWriteMultiple :
    (Instr.rqWriteMultiple 0 (List.replicate (2 ^ 32) (.i8 0))).wf = false := by
  simp only [Instr.wf, List.length_replicate]; decide
theorem test_wf_streamC2s : (Instr.streamC2s 0 (List.replicate (2 ^ 32) 0)).wf = false := by
  simp only [Instr.wf, List.length_replicate]; decide
theorem test_wf_streamS2c : (Instr.streamS2c 0 (List.replicate (2 ^ 35) 0)).wf = false := by
  simp only [Instr.wf, List.length_replicate]; decide
theorem test_wf_boundary : (Instr.frame 0 0 (List.replicate 255 0) 0).wf = true := by decide

/-! ### A word for each row of the opcode table -/

theorem test_decode_frame :
    decode .wire [0x54, 0xAB, 0x00, 0x05, 0x07, 0x40, 0x01, 0x04, 0x74, 0x65, 0x73, 0x74, 0x01, 0xA0] =
      Except.ok (Instr.frame 0x00 0x05 [0x40, 0x01, 0x04, 0x74, 0x65, 0x73, 0x74] 0xA001) := by decide
theorem test_decode_writeSingleInt8 :
    decode .subframe [0x10, 0x10, 0xFF] =
      Except.ok (Instr.writeSingleInt8 0x10 0xFF) := by decide
theorem test_decode_writeSingleInt16 :
    decode .subframe [0x11, 0xAC, 0x02, 0xFE, 0xFF] =
      Except.ok (Instr.writeSingleInt16 300 0xFFFE) := by decide
theorem test_decode_writeSingleInt32 :
    decode .subframe [0x12, 0x10, 0x03, 0x04, 0x05, 0x06] =
      Except.ok (Instr.writeSingleInt32 0x10 0x06050403) := by decide
theorem test_decode_writeSingleFloat :
    decode .subframe [0x13, 0x10, 0x00, 0x00, 0x80, 0x3F] =
      Except.ok (Instr.writeSingleFloat 0x10 0x3F800000) := by decide
theorem test_decode_writeMultipleInt8 :
    decode .subframe [0x14, 0x10, 0x03, 0x04, 0x05, 0x06] =
      Except.ok (Instr.writeMultipleInt8 0x10 [4, 5, 6]) := by decide
theorem test_decode_writeMultipleInt16 :
    decode .subframe [0x15, 0x20, 0x02, 0x01, 0x00, 0xFF, 0xFF] =
      Except.ok (Instr.writeMultipleInt16 0x20 [0x0001, 0xFFFF]) := by decide
theorem test_decode_writeMultipleInt32 :
    decode .subframe [0x16, 0x80, 0x01, 0x01, 0x04, 0x03, 0x02, 0x01] =
      Except.ok (Instr.writeMultipleInt32 0x80 [0x01020304]) := by decide
theorem test_decode_writeMultipleFloat :
    decode .subframe [0x17, 0x00, 0x02, 0x00, 0x00, 0x00, 0x3F, 0x00, 0x00, 0x00, 0x80] =
      Except.ok (Instr.writeMultipleFloat 0 [0x3F000000, 0x80000000]) := by decide
theorem test_decode_readSingleInt8 :
    decode .subframe [0x18, 0xFF, 0xFF, 0xFF, 0xFF, 0x0F] =
      Except.ok (Instr.readSingleInt8 0xFFFFFFFF) := by decide
theorem test_decode_readSingleInt16 :
    decode .subframe [0x19, 0xAC, 0x02] =
      Except.ok (Instr.readSingleInt16 300) := by decide
theorem test_decode_readSingleInt32 :
    decode .subframe [0x1A, 0x10] =
      Except.ok (Instr.readSingleInt32 0x10) := by decide
theorem test_decode_readSingleFloat :
    decode .subframe [0x1B, 0x80, 0x01] =
      Except.ok (Instr.readSingleFloat 0x80) := by decide
theorem test_decode_readMultipleInt8 :
    decode .subframe [0x1C, 0x10, 0x03] =
      Except.ok (Instr.readMultipleInt8 0x10 3) := by decide
theorem test_decode_readMultipleInt16 :
    decode .subframe [0x1D, 0x80, 0x02, 0x04] =
      Except.ok (Instr.readMultipleInt16 0x100 4) := by decide
theorem test_decode_readMultipleInt32 :
    decode .subframe [0x1E, 0x00, 0x02] =
      Except.ok (Instr.readMultipleInt32 0 2) := by decide
theorem test_decode_readMultipleFloat :
    decode .subframe [0x1F, 0x20, 0xC8, 0x01] =
      Except.ok (Instr.readMultipleFloat 0x20 200) := by decide
theorem test_decode_replySingleInt8 :
    decode .subframe [0x20, 0x10, 0x08] =
      Except.ok (Instr.replySingleInt8 0x10 0x08) := by decide
theorem test_decode_replySingleInt16 :
    decode .subframe [0x21, 0x10, 0x02, 0x03] =
      Except.ok (Instr.replySingleInt16 0x10 0x0302) := by decide
theorem test_decode_replySingleInt32 :
    decode .subframe [0x22, 0x10, 0x03, 0x04, 0x05, 0x06] =
      Except.ok (Instr.replySingleInt32 0x10 0x06050403) := by decide
theorem test_decode_replySingleFloat :
    decode .subframe [0x23, 0x10, 0x01, 0x00, 0xC0, 0x7F] =
      Except.ok (Instr.replySingleFloat 0x10 0x7FC00001) := by decide
theorem test_decode_replyMultipleInt8 :
    decode .subframe [0x24, 0x10, 0x03, 0x04, 0x05, 0x06] =
      Except.ok (Instr.replyMultipleInt8 0x10 3 [4, 5, 6]) := by decide
theorem test_decode_replyMultipleInt16 :
    decode .subframe [0x25, 0x10, 0x02, 0x01, 0x00, 0x02] =
      Except.ok (Instr.replyMultipleInt16 0x10 2 [1]) := by decide
theorem test_decode_replyMultipleInt32 :
    decode .subframe [0x26, 0x80, 0x01, 0x01, 0x04, 0x03, 0x02, 0x01] =
      Except.ok (Instr.replyMultipleInt32 0x80 1 [0x01020304]) := by decide
theorem test_decode_replyMultipleFloat :
    decode .subframe [0x27, 0x00, 0x02, 0x00, 0x00, 0x00, 0x3F, 0x00, 0x00, 0x00, 0x80] =
      Except.ok (Instr.replyMultipleFloat 0 2 [0x3F000000, 0x80000000]) := by decide
theorem test_decode_writeError :
    decode .subframe [0x28, 0x10, 0x02] =
      Except.ok (Instr.writeError 0x10 2) := by decide
theorem test_decode_readError :
    decode .subframe [0x29, 0xAC, 0x02, 0x05] =
      Except.ok (Instr.readError 300 5) := by decide
theorem test_decode_streamC2s :
    decode .subframe [0x40, 0x01, 0x04, 0x74, 0x65, 0x73, 0x74] =
      Except.ok (Instr.streamC2s 1 [0x74, 0x65, 0x73, 0x74]) := by decide
theorem test_decode_streamS2c :
    decode .subframe [0x41, 0x01, 0x02, 0x68, 0x69] =
      Except.ok (Instr.streamS2c 1 [0x68, 0x69]) := by decide
theorem test_decode_longDiscriminator :
    decode .subframe [0xA0, 0x00, 0x10, 0x08] =
      Except.ok (Instr.replySingleInt8 0x10 0x08) := by decide
theorem test_decode_vuEnc_command :
    decode .command [0x01, 0x85, 0x40, 0x00, 0x00] =
      Except.ok (Instr.vuEnc 0x4085) := by decide
theorem test_decode_vuDec_command :
    decode .command [0x02, 0x85, 0x01] =
      Except.ok (Instr.vuDec [0x85, 0x01]) := by decide
theorem test_decode_crc16_command :
    decode .command [0x03, 0x54, 0xAB] =
      Except.ok (Instr.crc16 [0x54, 0xAB]) := by decide
theorem test_decode_frameEnc_command :
    decode .command [0x04, 0x80, 0x05, 0x40, 0x01] =
      Except.ok (Instr.frameEnc 0 true 5 [0x40, 0x01]) := by decide
theorem test_decode_frameDec_command :
    decode .command [0x05, 0x54, 0xAB] =
      Except.ok (Instr.frameDec [0x54, 0xAB]) := by decide
theorem test_decode_lockAcquire_command :
    decode .command [0x10] =
      Except.ok (Instr.lockAcquire) := by decide
theorem test_decode_lockRelease_command :
    decode .command [0x11] =
      Except.ok (Instr.lockRelease) := by decide
theorem test_decode_lmWrite_command :
    decode .command [0x12, 0x54, 0xAB] =
      Except.ok (Instr.lmWrite [0x54, 0xAB]) := by decide
theorem test_decode_lmDrain_command :
    decode .command [0x13] =
      Except.ok (Instr.lmDrain) := by decide
theorem test_decode_lmReadFrame_command :
    decode .command [0x14, 0x85] =
      Except.ok (Instr.lmReadFrame (some 5)) := by decide
theorem test_decode_rqClear_command :
    decode .command [0x20] =
      Except.ok (Instr.rqClear) := by decide
theorem test_decode_rqReadSingle_command :
    decode .command [0x21, 0x10, 0x00, 0x00, 0x00, 0x03] =
      Except.ok (Instr.rqReadSingle 0x10 .float) := by decide
theorem test_decode_rqReadMultiple_command :
    decode .command [0x22, 0x10, 0x00, 0x00, 0x00, 0x03, 0x00, 0x00, 0x00, 0x00] =
      Except.ok (Instr.rqReadMultiple 0x10 3 .int8) := by decide
theorem test_decode_rqWriteSingle_command :
    decode .command [0x23, 0x10, 0x00, 0x00, 0x00, 0x01, 0x02, 0x03] =
      Except.ok (Instr.rqWriteSingle 0x10 (.i16 0x0302)) := by decide
theorem test_decode_rqWriteMultiple_command :
    decode .command [0x24, 0x11, 0x00, 0x00, 0x00, 0x00, 0x02, 0x01, 0x03, 0x00] =
      Except.ok (Instr.rqWriteMultiple 0x11 [.i8 2, .i16 3]) := by decide
theorem test_decode_parseRegisterReply_command :
    decode .command [0x28, 0x20, 0x10, 0x08] =
      Except.ok (Instr.parseRegisterReply [0x20, 0x10, 0x08]) := by decide
theorem test_decode_registerQuery_command :
    decode .command [0x30] =
      Except.ok (Instr.registerQuery) := by decide
theorem test_decode_registerWrite_command :
    decode .command [0x31] =
      Except.ok (Instr.registerWrite) := by decide
theorem test_decode_streamWrite_command :
    decode .command [0x38, 0x74] =
      Except.ok (Instr.streamWrite [0x74]) := by decide
theorem test_decode_streamDrain_command :
    decode .command [0x39] =
      Except.ok (Instr.streamDrain) := by decide
theorem test_decode_streamPoll_command :
    decode .command [0x3A] =
      Except.ok (Instr.streamPoll) := by decide
theorem test_decode_streamTake_command :
    decode .command [0x3B, 0x04, 0x01] =
      Except.ok (Instr.streamTake 260) := by decide
theorem test_decode_unknown_code : decode .subframe [0x2A, 0x10] = Except.error .unknownCode := by decide
theorem test_decode_wide_operand :
    decode .subframe [0x18, 0x80, 0x80, 0x80, 0x80, 0x10] = Except.error .tooWide := by decide
theorem test_tableWord_frame : decodeTableWord 16 0xAB54 = some (.frame 0 0 [] 0) := by decide
theorem test_tableWord_subframe : decodeTableWord 8 0x1D = some (.readMultipleInt16 0 0) := by decide
theorem test_tableWord_command : decodeTableWord 8 0x31 = some .registerWrite := by decide

/-! ### Small steps (expected values from spec/95_test_vectors.md and the rules' examples) -/

theorem test_vuEnc : answer (.vuEnc 0x4085) base = some (0, .bytes [0x85, 0x81, 0x01]) := by decide
theorem test_vuEnc_max :
    answer (.vuEnc 0xFFFFFFFF) base = some (0, .bytes [0xFF, 0xFF, 0xFF, 0xFF, 0x0F]) := by decide
theorem test_vuDec :
    answer (.vuDec [0xFF, 0xFF, 0xFF, 0xFF, 0x7F]) base = some (0, .value 0x7FFFFFFFF 5) := by decide
theorem test_vuDec_overlong :
    (next? (exec (.vuDec [0xFF, 0xFF, 0xFF, 0xFF, 0xFF]) base)).map (fun t => (t.fatal, t.cause)) =
      some (true, 1) := by decide
theorem test_crc16 :
    answer (.crc16 [0x31, 0x32, 0x33, 0x34, 0x35, 0x36, 0x37, 0x38, 0x39]) base = some (0, .crc 0x29B1) := by decide
theorem test_frameEnc :
    answer (.frameEnc 0x7F true 0x7F []) base =
      some (0, .bytes [0x54, 0xAB, 0xFF, 0x7F, 0x00, 0x55, 0xAE]) := by decide
theorem test_frameEnc_long :
    answer (.frameEnc 0 false 5 (List.replicate 256 0)) base = some (0, .fatal .payloadTooLong) := by decide
theorem test_frameDec :
    answer (.frameDec [0x54, 0xAB, 0x05, 0x00, 0x03, 0x20, 0x10, 0x08, 0x77, 0xA7]) base =
      some (0, .decoded ⟨5, false, 0, false, [0x20, 0x10, 0x08], 0xA777, true⟩ 10) := by decide
theorem test_frameDec_badMagic :
    answer (.frameDec [0xAB, 0x54, 0x00, 0x05]) base = some (0, .resyncFault .badMagic) := by decide
theorem test_lockAcquire :
    (next? (exec .lockAcquire base)).map State.waiters = some [0] := by decide
theorem test_lockAcquire_misuse :
    answer .lockAcquire holder = some (0, .fatal .lockMisuse) := by decide
theorem test_lockRelease :
    (next? (exec .lockRelease holder)).map State.token = some .free := by decide
theorem test_lockRelease_misuse :
    answer .lockRelease base = some (0, .fatal .lockMisuse) := by decide
theorem test_lmWrite :
    (next? (exec (.lmWrite [0x54, 0xAB]) base)).map (fun t => (t.txbuf, t.wire)) =
      some ([0x54, 0xAB], []) := by decide
theorem test_lmDrain :
    (next? (exec .lmDrain { holder with txbuf := [0x54] })).map (fun t => (t.txflight, t.txbuf, t.drOwner)) =
      some ([0x54], [], some 0) := by decide
theorem test_lmDrain_noToken : answer .lmDrain base = some (0, .fatal .noToken) := by decide
theorem test_lmReadFrame :
    (next? (exec (.lmReadFrame (some 5)) holder)).map (fun t => (t.rx.state, t.rx.owner, t.rx.filter)) =
      some (.hdr, some 0, some 5) := by decide
theorem test_lmReadFrame_noToken :
    answer (.lmReadFrame none) base = some (0, .fatal .noToken) := by decide
theorem test_rqClear :
    ((next? (exec .rqClear (withClient fun c => { c with reqbuf := [0x18, 0x10] }))).bind
      fun t => t.clients[0]?).map Client.reqbuf = some [] := by decide
theorem test_readSingleInt8 : request (.readSingleInt8 0) = some [0x18, 0x00] := by decide
theorem test_readSingleInt16 : request (.readSingleInt16 300) = some [0x19, 0xAC, 0x02] := by decide
theorem test_readSingleInt32 : request (.readSingleInt32 0x10) = some [0x1A, 0x10] := by decide
theorem test_readSingleFloat :
    request (.readSingleFloat 0x80) = some [0x1B, 0x80, 0x01] := by decide
theorem test_readMultipleInt8 :
    request (.readMultipleInt8 0x10 3) = some [0x1C, 0x10, 0x03] := by decide
theorem test_readMultipleInt16 :
    request (.readMultipleInt16 0x100 4) = some [0x1D, 0x80, 0x02, 0x04] := by decide
theorem test_readMultipleInt32 :
    request (.readMultipleInt32 0 2) = some [0x1E, 0x00, 0x02] := by decide
theorem test_readMultipleFloat :
    request (.readMultipleFloat 0x20 200) = some [0x1F, 0x20, 0xC8, 0x01] := by decide
theorem test_writeSingleInt8 :
    request (.writeSingleInt8 0x10 0xFF) = some [0x10, 0x10, 0xFF] := by decide
theorem test_writeSingleInt16 :
    request (.writeSingleInt16 300 0xFFFE) = some [0x11, 0xAC, 0x02, 0xFE, 0xFF] := by decide
theorem test_writeSingleInt32 :
    request (.writeSingleInt32 1 0x80000000) =
      some [0x12, 0x01, 0x00, 0x00, 0x00, 0x80] := by decide
theorem test_writeSingleFloat :
    request (.writeSingleFloat 0x20 0xC0200000) =
      some [0x13, 0x20, 0x00, 0x00, 0x20, 0xC0] := by decide
theorem test_writeMultipleInt8 :
    request (.writeMultipleInt8 0x10 [4, 5, 6]) =
      some [0x14, 0x10, 0x03, 0x04, 0x05, 0x06] := by decide
theorem test_writeMultipleInt16 :
    request (.writeMultipleInt16 0x20 [1, 0xFFFF]) =
      some [0x15, 0x20, 0x02, 0x01, 0x00, 0xFF, 0xFF] := by decide
theorem test_writeMultipleInt32 :
    request (.writeMultipleInt32 0x80 [0x01020304]) =
      some [0x16, 0x80, 0x01, 0x01, 0x04, 0x03, 0x02, 0x01] := by decide
theorem test_writeMultipleFloat :
    request (.writeMultipleFloat 0 [0x3F000000, 0x80000000]) =
      some [0x17, 0x00, 0x02, 0x00, 0x00, 0x00, 0x3F, 0x00, 0x00, 0x00, 0x80] := by decide
theorem test_rqReadSingle : request (.rqReadSingle 0x10 .int16) = some [0x19, 0x10] := by decide
theorem test_rqReadMultiple :
    request (.rqReadMultiple 0x20 200 .float) = some [0x1F, 0x20, 0xC8, 0x01] := by decide
theorem test_rqWriteSingle :
    request (.rqWriteSingle 0x10 (.f32 0x7FC00001)) =
      some [0x13, 0x10, 0x01, 0x00, 0xC0, 0x7F] := by decide
theorem test_rqWriteMultiple :
    request (.rqWriteMultiple 0x20 [.i16 1, .i16 0xFFFF]) =
      some [0x15, 0x20, 0x02, 0x01, 0x00, 0xFF, 0xFF] := by decide
theorem test_rqWriteMultiple_mixed :
    answer (.rqWriteMultiple 0x11 [.i32 1, .f32 1]) base = some (0, .fatal .mixedTypes) := by decide
theorem test_writeMultipleInt8_empty :
    answer (.writeMultipleInt8 0 []) base = some (0, .fatal .emptyWrite) := by decide
theorem test_replySingleInt8 :
    replies (.replySingleInt8 0x10 0xFF) = some [(0x10, .val (.i8 0xFF))] := by decide
theorem test_replySingleInt16 :
    replies (.replySingleInt16 0x10 0x0302) = some [(0x10, .val (.i16 0x0302))] := by decide
theorem test_replySingleInt32 :
    replies (.replySingleInt32 1 0x80000000) = some [(1, .val (.i32 0x80000000))] := by decide
theorem test_replySingleFloat :
    replies (.replySingleFloat 0x10 0x3F800000) =
      some [(0x10, .val (.f32 0x3F800000))] := by decide
theorem test_replyMultipleInt8 :
    replies (.replyMultipleInt8 0x7FFFFFFFF 2 [1, 2]) =
      some [(2 ^ 35 - 1, .val (.i8 1)), (2 ^ 35, .val (.i8 2))] := by decide
theorem test_replyMultipleInt16 :
    replies (.replyMultipleInt16 0x20 2 [1, 0xFFFF]) =
      some [(0x20, .val (.i16 1)), (0x21, .val (.i16 0xFFFF))] := by decide
theorem test_replyMultipleInt32 :
    replies (.replyMultipleInt32 0x80 1 [0x01020304]) =
      some [(0x80, .val (.i32 0x01020304))] := by decide
theorem test_replyMultipleFloat :
    replies (.replyMultipleFloat 0 2 [0x3F000000, 0x80000000]) =
      some [(0, .val (.f32 0x3F000000)), (1, .val (.f32 0x80000000))] := by decide
theorem test_writeError : replies (.writeError 0x10 2) = some [(0x10, .err 2)] := by decide
theorem test_readError : replies (.readError 300 5) = some [(300, .err 5)] := by decide
theorem test_replyMultipleInt8_short :
    answer (.replyMultipleInt8 0x10 3 [4, 5]) base =
      some (0, .parsed [(0x10, .val (.i8 4)), (0x11, .val (.i8 5))] .truncated) := by decide
theorem test_parse :
    answer (.parseRegisterReply [0x24, 0x10, 0x02, 0x04, 0x05, 0x22, 0x10, 0x01]) base =
      some (0, .parsed [(0x10, .val (.i8 4)), (0x11, .val (.i8 5))] .truncated) := by decide
theorem test_parse_unknown :
    answer (.parseRegisterReply [0x20, 0x10, 0x08, 0x41, 0x01, 0x00]) base =
      some (0, .parsed [(0x10, .val (.i8 8))] .unknownId) := by decide
theorem test_streamC2s :
    answer (.streamC2s 1 [0x74, 0x65, 0x73, 0x74]) base =
      some (0, .bytes [0x40, 0x01, 0x04, 0x74, 0x65, 0x73, 0x74]) := by decide
theorem test_streamS2c :
    ((next? (exec (.streamS2c 1 [0x68, 0x69]) base)).bind fun t => t.clients[0]?).map Client.rdbuf =
      some [0x68, 0x69] := by decide
theorem test_streamS2c_other :
    ((next? (exec (.streamS2c 2 [0x68, 0x69]) base)).bind fun t => t.clients[0]?).map Client.rdbuf =
      some [] := by decide
theorem test_streamWrite :
    ((next? (exec (.streamWrite [0x74]) base)).bind fun t => t.clients[0]?).map Client.wrbuf = some [0x74] := by decide
theorem test_streamTake :
    answer (.streamTake 1) (withClient fun c => { c with rdbuf := [0x74, 0x65] }) =
      some (0, .bytes [0x74]) := by decide
theorem test_streamTake_notYet :
    answer (.streamTake 3) (withClient fun c => { c with rdbuf := [0x74, 0x65] }) = some (0, .notYet) := by decide
theorem test_registerQuery :
    (next? (exec .registerQuery base)).map (fun t => (t.waiters, (t.clients[0]?).bind Client.exOp)) =
      some ([0], some .registerQuery) := by decide
theorem test_registerWrite :
    (next? (exec .registerWrite base)).map (fun t => (t.waiters, (t.clients[0]?).bind Client.exOp)) =
      some ([0], some .registerWrite) := by decide
theorem test_streamPoll :
    (next? (exec .streamPoll base)).map (fun t => (t.waiters, (t.clients[0]?).bind Client.exOp)) =
      some ([0], some .streamPoll) := by decide
theorem test_registerQuery_long :
    answer .registerQuery (withClient fun c => { c with reqbuf := List.replicate 256 0 }) =
      some (0, .fatal .payloadTooLong) := by decide
theorem test_registerWrite_misuse :
    answer .registerWrite holder = some (0, .fatal .lockMisuse) := by decide
theorem test_streamDrain :
    (next? (exec .streamDrain (withClient fun c => { c with wrbuf := [0x74] }))).map State.waiters = some [0] := by decide
theorem test_streamDrain_empty : answer .streamDrain base = some (0, .done) := by decide
theorem test_frame :
    ((next? (exec (.frame 0x05 0x00 [0x20, 0x10, 0x08] 0xA777) reading)).bind fun t => t.results.getLast?) =
      some (0, .frame ⟨5, false, 0, false, [0x20, 0x10, 0x08], 0xA777, true⟩) := by decide
theorem test_frame_queued :
    (next? (exec (.frame 0x05 0x80 [] 0x8939) base)).map State.rxq =
      some [0x54, 0xAB, 0x05, 0x80, 0x00, 0x39, 0x89] := by decide
theorem test_crc_of_the_read :
    (next? ({ reading with rxq := [0x54], crcAcc := 0 }.act .rxByte)).map (fun t => (t.rx.acc, t.crcAcc)) =
      some (0xFB81, 0xFB81) := by decide
theorem test_poll_cut_short :
    ((next? (exec (.frame 0x05 0x00 [0x41, 0x01, 0x04, 0x74, 0x65] 0) polling)).bind 
      fun t => next? (t.act (.exchange 0))).map
      (fun t => (t.results, t.clients.map Client.rdbuf, t.token)) = some ([(0, .appended 0)], [[], []], .free) := by decide
theorem test_decoded_release :
    (next? (decodedPoll.act (.exchange 0))).map (fun t => (t.token, t.results)) =
      some (.free, [(0, .appended 1)]) := by decide
theorem test_decoded_cancel :
    (next? (decodedPoll.act (.cancel 0))).map
      (fun t => (t.results, t.clients.map Client.rdbuf)) = some ([(0, .cancelled)], [[0x74], []]) := by decide
theorem test_port_overlong :
    ((next? (base.act (.subframe 0 [0x41, 0x80, 0x80, 0x80, 0x80, 0x80]))).bind
      fun t => t.results.getLast?) = some (0, .fatal .varuintOverlong) := by decide
theorem test_port_stream_cut :
    (next? ({ base with reply := [(1, .err 2)] }.act (.subframe 0 [0x41, 0x01, 0x05, 0x68]))).map
      (fun t => (t.results, t.reply, t.cur)) = some ([], [(1, .err 2)], 3) := by decide
theorem test_port_request_cut :
    ((next? (base.act (.subframe 0 [0x18, 0x80]))).bind fun t => t.results.getLast?) =
      some (0, .refused) := by decide
theorem test_refused : answer (.vuEnc 5) dead = some (0, .refused) := by decide
theorem test_no_requester :
    exec (.vuEnc 5) { base with issuer := 2 } = .fault .noSuchRequester := rfl
theorem test_step_tableWord :
    ((next? (step (base.withFetchWord 8 0x20))).map State.reply) = some [(0, .val (.i8 0))] := by decide

/-! ### The hypotheses of the statements are met -/

theorem witness_canIssue : base.CanIssue := by decide
theorem witness_canIssue_last : { base with issuer := 1 }.CanIssue := by decide
theorem witness_linkInv :
    base.LinkInv ∧ holder.LinkInv ∧ querying.LinkInv ∧ flushing.LinkInv ∧
      decodedPoll.LinkInv ∧ dead.LinkInv := by decide
theorem witness_stagingInv : base.StagingInv ∧ reading.StagingInv := by decide
theorem witness_statusInv : base.StatusInv ∧ dead.StatusInv := by decide
theorem witness_SubframeDecodeEncode :
    (Instr.replyMultipleInt8 0 2 [1, 2]).port = .subframe ∧
      (Instr.replyMultipleInt8 0 2 [1, 2]).wf = true ∧
      replyShort (Instr.replyMultipleInt8 0 2 [1, 2]) = false := by decide
theorem witness_CommandDecodeEncode :
    (Instr.rqWriteMultiple 0 []).port = .command ∧ (Instr.rqWriteMultiple 0 []).wf = true := by decide
theorem witness_FrameLayout : (List.replicate 255 (0 : Byte)).length ≤ 255 := by decide
theorem witness_DecodedIsWellFormed :
    decode .command [0x10] = Except.ok Instr.lockAcquire := by decide
theorem witness_StepRuns_command :
    { base with inputs := [.command 0 [0x10]] }.inputs = .command 0 [0x10] :: [] ∧
      decode .command [0x10] = Except.ok Instr.lockAcquire := by decide
theorem witness_StepRuns_subframe :
    { base with inputs := [.subframe 0 [0x18, 0x10]] }.inputs = .subframe 0 [0x18, 0x10] :: [] ∧
      ([0x18, 0x10] : Bytes).length ≤ 255 ∧
      decodeSub (Reader.start [0x18, 0x10]) =
        (Except.ok (Instr.readSingleInt8 0x10), ⟨[0x18, 0x10], 2, ⟨0x10, 7, 1⟩⟩) := by decide
theorem witness_StepRuns_frame :
    { base with inputs := [.frame [0x54, 0xAB, 0, 0, 0, 0, 0]] }.inputs =
        .frame [0x54, 0xAB, 0, 0, 0, 0, 0] :: [] ∧
      decode .wire [0x54, 0xAB, 0, 0, 0, 0, 0] = Except.ok (Instr.frame 0 0 [] 0) := by decide
theorem witness_VuDec_value :
    base.CanIssue ∧ (∀ j < 4, ∀ b ∈ ([0x80, 0x80, 0x80, 0x80, 0x7F] : Bytes)[j]?, b.msb = true) ∧
      ([0x80, 0x80, 0x80, 0x80, 0x7F] : Bytes)[4]? = some 0x7F ∧ (0x7F : Byte).msb = false := by decide
theorem witness_VuDec_noData :
    base.CanIssue ∧ (∀ j < 0, ∀ b ∈ ([] : Bytes)[j]?, b.msb = true) ∧ ([] : Bytes).length = 0 := by decide
theorem witness_VuDec_truncated :
    base.CanIssue ∧ (∀ j < 4, ∀ b ∈ ([0x80, 0x80, 0x80, 0x80] : Bytes)[j]?, b.msb = true) ∧
      ([0x80, 0x80, 0x80, 0x80] : Bytes).length = 4 := by decide
theorem witness_VuDec_overlong :
    base.CanIssue ∧ (∀ j < 5, ∀ b ∈ ([0xFF, 0xFF, 0xFF, 0xFF, 0xFF] : Bytes)[j]?, b.msb = true) ∧
      5 ≤ ([0xFF, 0xFF, 0xFF, 0xFF, 0xFF] : Bytes).length := by decide
theorem witness_CorruptByte_magic :
    base.CanIssue ∧ (0 : Nat) < 7 + ([] : Bytes).length ∧
      (sentFrame false 0 5 [])[0]? ≠ some 0 := by decide
theorem witness_CorruptByte_last :
    base.CanIssue ∧ (6 : Nat) < 7 + ([] : Bytes).length ∧ (6 : Nat) ≠ 4 ∧
      (sentFrame false 0 5 [])[6]? ≠ some 0xFF ∧ base.crcEnforce = false := by decide
theorem witness_CorruptByte_length :
    base.CanIssue ∧ (4 : Nat) < 7 + ([] : Bytes).length ∧
      (sentFrame false 0 5 [])[4]? ≠ some 1 ∧ ([] : Bytes).length < (1 : Byte).toNat := by decide
theorem witness_CorruptByte_enforced :
    { base with crcEnforce := true }.CanIssue ∧ (2 : Nat) < 7 + ([] : Bytes).length ∧ (2 : Nat) ≠ 4 ∧
      (sentFrame false 0 5 [])[2]? ≠ some 1 := by decide
theorem witness_FrameEnc_short :
    base.CanIssue ∧ (List.replicate 255 (0 : Byte)).length < 256 := by decide
theorem witness_FrameEnc_long :
    base.CanIssue ∧ 256 ≤ (List.replicate 256 (0 : Byte)).length := by decide
theorem witness_FrameDec :
    base.CanIssue ∧ ([0x54, 0xAB, 0x05] : Bytes).length < 4 ∧
      ¬ ((0x54 : Byte) = 0x54 ∧ (0xAA : Byte) = 0xAB) ∧ ([0x00] : Bytes).length < (0 : Byte).toNat + 2 ∧
      ([] : Bytes).length ≤ 255 := by decide
theorem witness_LockAcquire : base.CanIssue ∧ base.token ≠ .held base.issuer := by decide
theorem witness_LockAcquire_held : holder.CanIssue ∧ holder.token = .held holder.issuer := by decide
theorem witness_LockRelease :
    holder.CanIssue ∧ holder.token = .held holder.issuer ∧ holder.LinkInv := by decide
theorem witness_LockRelease_free : base.CanIssue ∧ base.token ≠ .held base.issuer := by decide
theorem witness_TxEngine :
    { holder with drs := .write, drOwner := some 0 }.fatal = false ∧
      { holder with drs := .write, drOwner := some 0 }.drs = .write := by decide
theorem witness_TxEngine_disabled : base.drs ≠ .write ∧ dead.fatal = true := by decide
theorem witness_TransmitOrder :
    flushing.LinkInv ∧ Stimulus.txFlushed ≠ .reset ∧ (next? (flushing.act .txFlushed)).isSome = true := by decide
theorem witness_TransmitOrder_write :
    base.LinkInv ∧ decode .command [0x12, 0x54] = Except.ok (Instr.lmWrite [0x54]) ∧
      { base with issuer := 1 }.CanIssue ∧ (next? (base.act (.command 1 [0x12, 0x54]))).isSome = true := by decide
theorem witness_TransmitOrder_exchange :
    (running .streamPoll .token).LinkInv ∧ (running .streamPoll .token).fatal = false ∧
      (running .streamPoll .token).clients[0]? =
        some (client0 fun c => { c with exs := .token, exOp := some .streamPoll }) ∧
      (exchangePayload .streamPoll (client0 id)).length ≤ 255 ∧
      (next? ((running .streamPoll .token).act (.exchange 0))).isSome = true := by decide
theorem witness_ReceiveOrder :
    (∀ b, Stimulus.rxByte ≠ .rxArrive b) ∧ (∀ bs, Stimulus.rxByte ≠ .frame bs) ∧ Stimulus.rxByte ≠ .reset ∧
      (next? (base.act .rxByte)).isSome = true ∧ (next? (base.act (.frame [0x00]))).isSome = true := by
  refine ⟨by simp, by simp, by simp, by decide, by decide⟩
theorem witness_EventsWithNothing :
    base.drs ≠ .flush ∧ base.rx.owner ≠ some 0 ∧ 0 ∉ base.waiters ∧ base.drOwner ≠ some 0 ∧
      base.exsOf 0 = .idle := by decide
theorem witness_Grant_bare :
    { base with waiters := [0] }.clients[0]? = some (client0 id) ∧
      { base with waiters := [0] }.fatal = false ∧ { base with waiters := [0] }.token = .free ∧
      0 ∈ { base with waiters := [0] }.waiters ∧ (client0 id).exOp = none := by decide
theorem witness_Grant_exchange :
    { withClient (fun c => { c with exOp := some .streamPoll }) with waiters := [0, 1] }.clients[0]? =
        some (client0 fun c => { c with exOp := some .streamPoll }) ∧
      base.fatal = false ∧ base.token = .free ∧ 0 ∈ [0, 1] ∧
      (client0 fun c => { c with exOp := some .streamPoll }).exOp ≠ none := by decide
theorem witness_Grant_disabled :
    holder.clients[0]? = some (client0 id) ∧ holder.token ≠ .free := by decide
theorem witness_DrainCompletes :
    flushing.fatal = false ∧ flushing.drs = .flush ∧ flushing.drOwner = some 0 ∧
      flushing.clients[0]? = some (client0 id) ∧ (client0 id).exOp = none ∧
      (client0 id).cancelled = false := by decide
theorem witness_DrainCompletes_registerWrite :
    { running .registerWrite .token with drs := .flush, drOwner := some 0 }.fatal = false ∧
      { running .registerWrite .token with drs := .flush, drOwner := some 0 }.drs = .flush ∧
      { running .registerWrite .token with drs := .flush, drOwner := some 0 }.drOwner = some 0 ∧
      { running .registerWrite .token with drs := .flush, drOwner := some 0 }.clients[0]? =
        some (client0 fun c => { c with exs := .token, exOp := some .registerWrite }) ∧
      (client0 fun c => { c with exs := .token, exOp := some .registerWrite }).cancelled = false := by decide
theorem witness_DrainCompletes_registerQuery :
    { running .registerQuery .token with drs := .flush, drOwner := some 0 }.fatal = false ∧
      { running .registerQuery .token with drs := .flush, drOwner := some 0 }.drs = .flush ∧
      { running .registerQuery .token with drs := .flush, drOwner := some 0 }.drOwner = some 0 ∧
      { running .registerQuery .token with drs := .flush, drOwner := some 0 }.clients[0]? =
        some (client0 fun c => { c with exs := .token, exOp := some .registerQuery }) ∧
      (client0 fun c => { c with exs := .token, exOp := some .registerQuery }).cancelled = false := by decide
theorem witness_DrainCompletes_cancelled :
    flushing.fatal = false ∧ flushing.drs = .flush ∧ flushing.drOwner = some 0 ∧
      { flushing with clients := flushing.clients.modify 0 fun c => { c with exOp := some .registerQuery, cancelled := true } }.clients[0]? =
        some (client0 fun c => { c with exOp := some .registerQuery, cancelled := true }) ∧
      (client0 fun c => { c with exOp := some .registerQuery, cancelled := true }).cancelled = true := by decide
theorem witness_RxTakesOneByte_cnt0 :
    (readingAt [0x54] fun rx => { rx with cnt := 0 }).fatal = false ∧
      (readingAt [0x54] fun rx => { rx with cnt := 0 }).rxq = 0x54 :: [] ∧
      (readingAt [0x54] fun rx => { rx with cnt := 0 }).rx.state = .hdr ∧
      (readingAt [0x54] fun rx => { rx with cnt := 0 }).rx.cnt = 0 := by decide
theorem witness_RxTakesOneByte_cnt1 :
    (readingAt [0x54] fun rx => { rx with cnt := 1 }).fatal = false ∧
      (readingAt [0x54] fun rx => { rx with cnt := 1 }).rxq = 0x54 :: [] ∧
      (readingAt [0x54] fun rx => { rx with cnt := 1 }).rx.state = .hdr ∧
      (readingAt [0x54] fun rx => { rx with cnt := 1 }).rx.cnt = 1 := by decide
theorem witness_RxTakesOneByte_cnt2 :
    (readingAt [0x54] fun rx => { rx with cnt := 2 }).fatal = false ∧
      (readingAt [0x54] fun rx => { rx with cnt := 2 }).rxq = 0x54 :: [] ∧
      (readingAt [0x54] fun rx => { rx with cnt := 2 }).rx.state = .hdr ∧
      (readingAt [0x54] fun rx => { rx with cnt := 2 }).rx.cnt = 2 := by decide
theorem witness_RxTakesOneByte_cnt3 :
    (readingAt [0x54] fun rx => { rx with cnt := 3, magic := 0xAB54 }).fatal = false ∧
      (readingAt [0x54] fun rx => { rx with cnt := 3, magic := 0xAB54 }).rxq = 0x54 :: [] ∧
      (readingAt [0x54] fun rx => { rx with cnt := 3, magic := 0xAB54 }).rx.state = .hdr ∧
      (readingAt [0x54] fun rx => { rx with cnt := 3, magic := 0xAB54 }).rx.cnt = 3 ∧
      (readingAt [0x54] fun rx => { rx with cnt := 3, magic := 0xAB54 }).rx.magic = 0xAB54 := by decide
theorem witness_RxTakesOneByte_len :
    (readingAt [0x54] fun rx => { rx with state := .len, cnt := 4 }).fatal = false ∧
      (readingAt [0x54] fun rx => { rx with state := .len, cnt := 4 }).rxq = 0x54 :: [] ∧
      (readingAt [0x54] fun rx => { rx with state := .len, cnt := 4 }).rx.state = .len := by decide
theorem witness_RxTakesOneByte_payload :
    (readingAt [0x54] fun rx => { rx with state := .body, len := 255, cnt := 254 }).fatal = false ∧
      (readingAt [0x54] fun rx => { rx with state := .body, len := 255, cnt := 254 }).rxq = 0x54 :: [] ∧
      (readingAt [0x54] fun rx => { rx with state := .body, len := 255, cnt := 254 }).rx.state = .body ∧
      (readingAt [0x54] fun rx => { rx with state := .body, len := 255, cnt := 254 }).rx.cnt.toNat < (readingAt [0x54] fun rx => { rx with state := .body, len := 255, cnt := 254 }).rx.len.toNat := by decide
theorem witness_RxTakesOneByte_crcLow :
    (readingAt [0x54] fun rx => { rx with state := .body, len := 255, cnt := 255 }).fatal = false ∧
      (readingAt [0x54] fun rx => { rx with state := .body, len := 255, cnt := 255 }).rxq = 0x54 :: [] ∧
      (readingAt [0x54] fun rx => { rx with state := .body, len := 255, cnt := 255 }).rx.state = .body ∧
      (readingAt [0x54] fun rx => { rx with state := .body, len := 255, cnt := 255 }).rx.cnt.toNat = (readingAt [0x54] fun rx => { rx with state := .body, len := 255, cnt := 255 }).rx.len.toNat := by decide
theorem witness_RxTakesOneByte_nothing :
    dead.fatal = true ∧ base.rx.state = .idle ∧ reading.rxq = [] := by decide
theorem witness_BadMagic :
    (readingAt [0x33] fun rx => { rx with cnt := 3, magic := 0x1100 }).fatal = false ∧
      (readingAt [0x33] fun rx => { rx with cnt := 3, magic := 0x1100 }).rxq = 0x33 :: [] ∧
      (readingAt [0x33] fun rx => { rx with cnt := 3, magic := 0x1100 }).rx.state = .hdr ∧
      (readingAt [0x33] fun rx => { rx with cnt := 3, magic := 0x1100 }).rx.cnt = 3 ∧
      (readingAt [0x33] fun rx => { rx with cnt := 3, magic := 0x1100 }).rx.magic ≠ 0xAB54 ∧
      (readingAt [0x33] fun rx => { rx with cnt := 3, magic := 0x1100 }).rx.owner = some 0 ∧
      (readingAt [0x33] fun rx => { rx with cnt := 3, magic := 0x1100 }).clients[0]? = some (client0 id) ∧ (client0 id).exOp = none := by decide
theorem witness_WholeFrame :
    (readingAt (wireFrame 5 0 [] 0 ++ [0x11]) id).ReadStarted 0 ∧
      (readingAt (wireFrame 5 0 [] 0 ++ [0x11]) id).clients[0]? = some (client0 id) ∧
      (client0 id).exOp = none ∧ ([] : Bytes).length ≤ 255 ∧
      (readingAt (wireFrame 5 0 [] 0 ++ [0x11]) id).rxq = wireFrame 5 0 [] 0 ++ [0x11] := by decide
theorem witness_BadMagic_exchange :
    { querying with rxq := [0x33], rx := { querying.rx with cnt := 3, magic := 0x1100 } }.fatal = false ∧
      { querying with rxq := [0x33], rx := { querying.rx with cnt := 3, magic := 0x1100 } }.rxq = 0x33 :: [] ∧
      { querying with rxq := [0x33], rx := { querying.rx with cnt := 3, magic := 0x1100 } }.rx.state = .hdr ∧
      { querying with rxq := [0x33], rx := { querying.rx with cnt := 3, magic := 0x1100 } }.rx.cnt = 3 ∧
      { querying with rxq := [0x33], rx := { querying.rx with cnt := 3, magic := 0x1100 } }.rx.magic ≠ 0xAB54 ∧
      { querying with rxq := [0x33], rx := { querying.rx with cnt := 3, magic := 0x1100 } }.rx.owner = some 0 ∧
      { querying with rxq := [0x33], rx := { querying.rx with cnt := 3, magic := 0x1100 } }.clients[0]? =
        some (client0 fun c => { c with exs := .await, exOp := some .registerQuery, written := true }) ∧
      (client0 fun c => { c with exs := .await, exOp := some .registerQuery, written := true }).exOp =
        some .registerQuery := by decide
theorem witness_WholeFrame_exchange :
    { querying with crcEnforce := true, rxq := wireFrame 5 0 [] 0 ++ [0x11] }.ReadStarted 0 ∧
      { querying with crcEnforce := true, rxq := wireFrame 5 0 [] 0 ++ [0x11] }.clients[0]? =
        some (client0 fun c => { c with exs := .await, exOp := some .registerQuery, written := true }) ∧
      (client0 fun c => { c with exs := .await, exOp := some .registerQuery, written := true }).exOp =
        some .registerQuery ∧
      ([] : Bytes).length ≤ 255 ∧
      { querying with crcEnforce := true, rxq := wireFrame 5 0 [] 0 ++ [0x11] }.rxq = wireFrame 5 0 [] 0 ++ [0x11] ∧
      frameCrc 5 0 [] ≠ 0 ∧ { querying with crcEnforce := true, rxq := wireFrame 5 0 [] 0 ++ [0x11] }.crcEnforce = true := by decide
theorem witness_FrameIsDelivered :
    reading.ReadStarted 0 ∧ reading.clients[0]? = some (client0 id) ∧ (client0 id).exOp = none ∧
      reading.rxq = [] ∧ ([] : Bytes).length ≤ 255 := by decide
theorem witness_FrameIsDelivered_waits :
    ([] : Bytes).length ≤ 255 ∧ base.rx.state = .idle ∧ dead.fatal = true := by decide
theorem witness_Timeout_bare :
    reading.fatal = false ∧ reading.rx.owner = some 0 ∧ reading.rx.state ≠ .idle ∧
      reading.clients[0]? = some (client0 id) ∧ (client0 id).exOp = none := by decide
theorem witness_Timeout_exchange :
    querying.fatal = false ∧ querying.rx.owner = some 0 ∧ querying.rx.state ≠ .idle ∧
      querying.clients[0]? = some (client0 fun c => { c with exs := .await, exOp := some .registerQuery, written := true }) ∧
      (client0 fun c => { c with exs := .await, exOp := some .registerQuery, written := true }).exOp =
        some .registerQuery := by decide
theorem witness_Cancel_waiter :
    { base with waiters := [0] }.fatal = false ∧
      { base with waiters := [0] }.clients[0]? = some (client0 id) ∧ 0 ∈ { base with waiters := [0] }.waiters := by decide
theorem witness_Cancel_drain :
    flushing.fatal = false ∧ flushing.clients[0]? = some (client0 id) ∧ 0 ∉ flushing.waiters ∧
      flushing.drOwner = some 0 ∧ flushing.drs ≠ .idle := by decide
theorem witness_Cancel_read :
    querying.fatal = false ∧
      querying.clients[0]? = some (client0 fun c => { c with exs := .await, exOp := some .registerQuery, written := true }) ∧
      0 ∉ querying.waiters ∧ querying.drs = .idle ∧ querying.rx.owner = some 0 ∧ querying.rx.state ≠ .idle := by decide
theorem witness_Cancel_token :
    (running .registerWrite .token).fatal = false ∧
      (running .registerWrite .token).clients[0]? =
        some (client0 fun c => { c with exs := .token, exOp := some .registerWrite }) ∧
      0 ∉ (running .registerWrite .token).waiters ∧ (running .registerWrite .token).drs = .idle ∧
      (running .registerWrite .token).rx.state = .idle ∧
      ∀ n, (client0 fun c => { c with exs := .token, exOp := some .registerWrite }).outcome ≠ some (.appended n) := by
  refine ⟨by decide, by decide, by decide, by decide, by decide, by simp [client0, Client.fresh]⟩
theorem witness_Cancel_sent :
    (running .registerWrite .sent).fatal = false ∧
      (running .registerWrite .sent).clients[0]? =
        some (client0 fun c => { c with exs := .sent, exOp := some .registerWrite }) ∧
      0 ∉ (running .registerWrite .sent).waiters ∧ (running .registerWrite .sent).drs = .idle ∧
      (running .registerWrite .sent).rx.state = .idle ∧
      ∀ n, (client0 fun c => { c with exs := .sent, exOp := some .registerWrite }).outcome ≠ some (.appended n) := by
  refine ⟨by decide, by decide, by decide, by decide, by decide, by simp [client0, Client.fresh]⟩
theorem witness_Cancel_decoded :
    decodedPoll.fatal = false ∧ 0 ∉ decodedPoll.waiters ∧ decodedPoll.drs = .idle ∧
      decodedPoll.rx.state = .idle ∧ decodedPoll.LinkInv ∧
      decodedPoll.clients[0]? = some (client0 fun c =>
        { c with exs := .decoded, exOp := some .streamPoll, written := true, rdbuf := [0x74, 0x65]
                 outcome := some (.appended 1) }) := by decide
theorem witness_StreamS2c_own :
    base.CanIssue ∧ base.clients[base.issuer]? = some (client0 id) ∧
      (1 : VuValue).toNat = (client0 id).channel.toNat := by decide
theorem witness_StreamS2c_other :
    base.CanIssue ∧ base.clients[base.issuer]? = some (client0 id) ∧
      (0x100000001 : VuValue).toNat ≠ (client0 id).channel.toNat := by decide
theorem witness_StreamBuffers :
    base.CanIssue ∧ base.clients[base.issuer]? = some (client0 id) ∧
      (client0 id).rdbuf.length < 1 ∧ 0 ≤ (client0 id).rdbuf.length := by decide
theorem witness_ExchangeAsks :
    (withClient fun c => { c with reqbuf := List.replicate 255 0, wrbuf := [0x74] }).CanIssue ∧
      (withClient fun c => { c with reqbuf := List.replicate 255 0, wrbuf := [0x74] }).clients[0]? =
        some (client0 fun c => { c with reqbuf := List.replicate 255 0, wrbuf := [0x74] }) ∧
      (withClient fun c => { c with reqbuf := List.replicate 255 0, wrbuf := [0x74] }).issuer = 0 ∧
      (client0 fun c => { c with reqbuf := List.replicate 255 0, wrbuf := [0x74] }).reqbuf.length ≤ 255 ∧
      (client0 fun c => { c with reqbuf := List.replicate 255 0, wrbuf := [0x74] }).wrbuf ≠ [] ∧
      (withClient fun c => { c with reqbuf := List.replicate 255 0, wrbuf := [0x74] }).token ≠ .held 0 := by decide
theorem witness_ExchangeAsks_held :
    holder.CanIssue ∧ holder.clients[holder.issuer]? = some (client0 id) ∧
      (client0 id).reqbuf.length ≤ 255 ∧ holder.token = .held holder.issuer := by decide
theorem witness_ExchangeAsks_long :
    (withClient fun c => { c with reqbuf := List.replicate 256 0 }).CanIssue ∧
      (withClient fun c => { c with reqbuf := List.replicate 256 0 }).clients[0]? =
        some (client0 fun c => { c with reqbuf := List.replicate 256 0 }) ∧
      256 ≤ (client0 fun c => { c with reqbuf := List.replicate 256 0 }).reqbuf.length := by decide
theorem witness_ExchangeAsks_nothing :
    base.CanIssue ∧ base.clients[base.issuer]? = some (client0 id) ∧ (client0 id).wrbuf = [] := by decide
theorem witness_RegisterWriteRuns :
    (withClient fun c => { c with reqbuf := List.replicate 255 0, wrbuf := [0x74] }).CanIssue ∧
      (withClient fun c => { c with reqbuf := List.replicate 255 0, wrbuf := [0x74] }).LinkInv ∧
      (withClient fun c => { c with reqbuf := List.replicate 255 0, wrbuf := [0x74] }).token = .free ∧
      (withClient fun c => { c with reqbuf := List.replicate 255 0, wrbuf := [0x74] }).clients[0]? =
        some (client0 fun c => { c with reqbuf := List.replicate 255 0, wrbuf := [0x74] }) ∧
      (client0 fun c => { c with reqbuf := List.replicate 255 0, wrbuf := [0x74] }).reqbuf.length ≤ 255 ∧
      (client0 fun c => { c with reqbuf := List.replicate 255 0, wrbuf := [0x74] }).wrbuf ≠ [] := by decide
theorem witness_RegisterQueryRuns :
    base.CanIssue ∧ base.LinkInv ∧ base.token = .free ∧
      base.clients[base.issuer]? = some (client0 id) ∧ (client0 id).reqbuf.length ≤ 255 ∧ base.rxq = [] ∧
      (0x85 : Byte).setWidth 7 = (client0 id).destId ∧
      (∀ i ∈ [Instr.replySingleInt8 0x10 8],
        isRegisterReply i = true ∧ i.wf = true ∧ replyShort i = false) ∧
      ([Instr.replySingleInt8 0x10 8].flatMap encode ++ [0x80]).length ≤ 255 ∧ base.crcEnforce = false := by decide
theorem witness_TailStops :
    TailStops [] .exhausted [] ∧ TailStops [0x1F] .unknownId [] ∧ TailStops [0x2A] .unknownId [] ∧
      TailStops [0x80] .truncated [] := 
  ⟨.inl ⟨rfl, rfl, rfl⟩, .inr (.inl ⟨rfl, rfl, 0x1F, 1, by decide, by decide⟩),
    .inr (.inl ⟨rfl, rfl, 0x2A, 1, by decide, by decide⟩), .inr (.inr ⟨rfl, .inl ⟨rfl, by decide⟩⟩)⟩
theorem witness_TailCutShort :
    TailCutShort [0x20] [] ∧ TailCutShort [0x23, 0x10, 0, 0, 0] [] ∧ TailCutShort [0x28, 0x10, 0x80] [] ∧
      TailCutShort [0x25, 0x10, 0x02, 1, 0, 2] [(0x10, .val (.i16 1))] := 
  ⟨⟨0x20, 1, by decide, by decide, by decide, .inl ⟨rfl, .inl (by decide)⟩⟩,
    ⟨0x23, 1, by decide, by decide, by decide,
      .inr ⟨0x10, 1, by decide, .inl ⟨rfl, .float, by decide, by decide⟩⟩⟩,
    ⟨0x28, 1, by decide, by decide, by decide,
      .inr ⟨0x10, 1, by decide, .inr (.inl ⟨rfl, by decide, .inr (by decide)⟩)⟩⟩,
    ⟨0x25, 1, by decide, by decide, by decide,
      .inr ⟨0x10, 1, by decide, .inr (.inr ⟨2, 1, by decide, .int16, by decide, by decide, by decide⟩)⟩⟩⟩
theorem witness_StreamPollRuns :
    base.CanIssue ∧ base.LinkInv ∧ base.token = .free ∧
      base.clients[base.issuer]? = some (client0 id) ∧ base.rxq = [] ∧
      (0x05 : Byte).setWidth 7 = (client0 id).destId ∧
      (encode (.streamS2c 1 [0x74]) ++ [0x41]).length ≤ 255 ∧
      ([] : Bytes).length ≤ 255 ∧ base.crcEnforce = false := by decide
theorem witness_StreamAccepts :
    StreamAccepts [0x41, 0x01, 0x02, 0x68, 0x69, 0x41, 0x01, 0x02, 0x68, 0x6F] 1 [0x68, 0x69] ∧
      StreamAccepts [0x41, 0x02, 0x00] 2 [] := 
  ⟨⟨1, 1, 1, 2, by decide⟩, ⟨1, 1, 1, 0, by decide⟩⟩
theorem witness_StreamRejects :
    StreamRejects [] ∧ StreamRejects [0x41] ∧ StreamRejects [0x41, 0x81] ∧
      StreamRejects [0x41, 0x01] ∧ StreamRejects [0x41, 0x01, 0x04, 0x74, 0x65] ∧
      StreamRejects [0x20, 0x10, 0x08] := 
  ⟨.inl (by decide), .inr ⟨0x41, 1, by decide, .inl (by decide)⟩,
    .inr ⟨0x41, 1, by decide, .inl (by decide)⟩,
    .inr ⟨0x41, 1, by decide, .inr ⟨1, 1, by decide, .inl (by decide)⟩⟩,
    .inr ⟨0x41, 1, by decide, .inr ⟨1, 1, by decide, .inr ⟨4, 1, by decide, .inr (by decide)⟩⟩⟩,
    .inr ⟨0x20, 1, by decide, .inr ⟨0x10, 1, by decide, .inr ⟨8, 1, by decide, .inl (by decide)⟩⟩⟩⟩
theorem witness_StrayFrame :
    { querying with rxq := wireFrame 6 0 [] 0 ++ [0x11] }.ReadStarted 0 ∧
      querying.clients[0]? = some (client0 fun c => { c with exs := .await, exOp := some .registerQuery, written := true }) ∧
      querying.rx.filter = some (client0 id).destId ∧ (6 : Byte).setWidth 7 ≠ (client0 id).destId ∧
      ([] : Bytes).length ≤ 255 ∧ querying.crcEnforce = false ∧
      { querying with rxq := wireFrame 6 0 [] 0 ++ [0x11] }.rxq = wireFrame 6 0 [] 0 ++ [0x11] := by decide
theorem witness_OverlongReply :
    querying.LinkInv ∧ querying.ReadStarted 0 ∧
      querying.clients[0]? = some (client0 fun c => { c with exs := .await, exOp := some .registerQuery, written := true }) ∧
      querying.rx.filter = some (client0 id).destId ∧ (5 : Byte).setWidth 7 = (client0 id).destId ∧
      ([0xFF, 0xFF, 0xFF, 0xFF, 0xFF] : Bytes).length ≤ 255 ∧
      (vuDec [0xFF, 0xFF, 0xFF, 0xFF, 0xFF] 0).1 = .overlong ∧
      { querying with
        rxq := wireFrame 5 0 [0xFF, 0xFF, 0xFF, 0xFF, 0xFF]
          (frameCrc 5 0 [0xFF, 0xFF, 0xFF, 0xFF, 0xFF]) ++ [] }.rxq =
        wireFrame 5 0 [0xFF, 0xFF, 0xFF, 0xFF, 0xFF]
          (frameCrc 5 0 [0xFF, 0xFF, 0xFF, 0xFF, 0xFF]) ++ [] := by decide
theorem witness_OverlongReply_whole :
    ∃ (is : List Instr) (tail : Bytes),
      ([0x20, 0x10, 0x08, 0xFF, 0xFF, 0xFF, 0xFF, 0xFF] : Bytes) = is.flatMap encode ++ tail ∧
      (∀ i ∈ is, isRegisterReply i = true ∧ i.wf = true ∧ replyShort i = false) ∧
      ReplyFieldOverlong tail := 
  ⟨[.replySingleInt8 0x10 8], [0xFF, 0xFF, 0xFF, 0xFF, 0xFF], by decide, by decide,
    .inl (by decide)⟩
theorem witness_OverlongReply_fields :
    ReplyFieldOverlong [0x20, 0xFF, 0xFF, 0xFF, 0xFF, 0xFF] ∧
      ReplyFieldOverlong [0x24, 0x10, 0xFF, 0xFF, 0xFF, 0xFF, 0xFF] ∧
      ReplyFieldOverlong [0x29, 0x10, 0xFF, 0xFF, 0xFF, 0xFF, 0xFF] := 
  ⟨.inr ⟨0x20, 1, by decide, by decide, by decide, .inl (by decide)⟩,
    .inr ⟨0x24, 1, by decide, by decide, by decide, .inr ⟨0x10, 1, by decide, by decide, by decide⟩⟩,
    .inr ⟨0x29, 1, by decide, by decide, by decide, .inr ⟨0x10, 1, by decide, by decide, by decide⟩⟩⟩
theorem witness_OverlongReply_notEnforced :
    querying.crcEnforce = false ∧
      frameCrc 5 0 [0xFF, 0xFF, 0xFF, 0xFF, 0xFF] ≠ 0 ∧
      { querying with rxq := wireFrame 5 0 [0xFF, 0xFF, 0xFF, 0xFF, 0xFF] 0 }.rxq =
        wireFrame 5 0 [0xFF, 0xFF, 0xFF, 0xFF, 0xFF] 0 ++ [] := by decide
theorem witness_OverlongReply_stream :
    StreamFieldOverlong [0xFF, 0xFF, 0xFF, 0xFF, 0xFF] ∧
      StreamFieldOverlong [0x41, 0xFF, 0xFF, 0xFF, 0xFF, 0xFF] ∧
      StreamFieldOverlong [0x41, 0x01, 0xFF, 0xFF, 0xFF, 0xFF, 0xFF] := 
  ⟨.inl (by decide), .inr ⟨0x41, 1, by decide, .inl (by decide)⟩,
    .inr ⟨0x41, 1, by decide, .inr ⟨1, 1, by decide, by decide⟩⟩⟩
theorem witness_OverlongReply_poll : polling.LinkInv ∧
      polling.ReadStarted 0 := by decide
theorem witness_WriteMultiple :
    base.CanIssue ∧ ([0] : List (BitVec 8)) ≠ [] ∧ ([0] : List (BitVec 8)).length < 2 ^ 32 ∧
      ∀ v ∈ [TV.i8 0], v.tag = .int8 := by decide
theorem witness_WriteMultiple_mixed :
    ∃ v ∈ [TV.i32 1, TV.f32 1], ∃ w ∈ [TV.i32 1, TV.f32 1], v.tag ≠ w.tag := by decide
theorem witness_ReplyMultiple :
    base.CanIssue ∧ ([TV.i8 4, TV.i8 5]).length = (2 : VuValue).toNat ∧
      ([TV.i8 4, TV.i8 5]).length < (3 : VuValue).toNat := by decide
theorem witness_Parse :
    base.CanIssue ∧ ∀ i ∈ [Instr.replySingleInt8 0x10 8, Instr.readError 1 2],
      isRegisterReply i = true ∧ i.wf = true ∧ replyShort i = false := by decide
theorem witness_Parse_tails :
    (vuDec [0x1F] 0).1 = .value 0x1F 1 ∧ ¬ (0x20 ≤ (0x1F : VuValue).toNat ∧ (0x1F : VuValue).toNat ≤ 0x29) ∧
      (vuDec [0x2A] 0).1 = .value 0x2A 1 ∧ (vuDec [0x80] 0).1 = .truncated ∧
      (vuDec [0xFF, 0xFF, 0xFF, 0xFF, 0xFF] 0).1 = .overlong := by decide
theorem witness_ParseStops_index :
    (vuDec [0x20] 0).1 = .value 0x20 1 ∧ 0x20 ≤ (0x20 : VuValue).toNat ∧ (0x20 : VuValue).toNat ≤ 0x29 ∧
      (vuDec [0x20] 1).1 = .noData ∧ (vuDec [0x29, 0x80] 1).1 = .truncated ∧
      (vuDec [0x29, 0x80] 0).1 = .value 0x29 1 ∧
      (vuDec [0x20, 0xFF, 0xFF, 0xFF, 0xFF, 0xFF] 1).1 = .overlong := by decide
theorem witness_ParseStops_value :
    (vuDec [0x23, 0x10, 0, 0, 0] 0).1 = .value 0x23 1 ∧ (vuDec [0x23, 0x10, 0, 0, 0] 1).1 = .value 0x10 1 ∧
      (0x23 : VuValue).toNat = 0x20 + TypeTag.float.num.toNat ∧
      ([0x23, 0x10, 0, 0, 0] : Bytes).length < 1 + 1 + TypeTag.float.width := by decide
theorem witness_ParseStops_second :
    0x24 ≤ (0x28 : VuValue).toNat ∧ (vuDec [0x28, 0x10] 0).1 = .value 0x28 1 ∧
      (vuDec [0x28, 0x10] 1).1 = .value 0x10 1 ∧ (vuDec [0x28, 0x10] 2).1 = .noData ∧
      (vuDec [0x28, 0x10, 0x80] 2).1 = .truncated ∧
      (vuDec [0x24, 0x10, 0xFF, 0xFF, 0xFF, 0xFF, 0xFF] 2).1 = .overlong := by decide
theorem witness_ParseStops_values :
    (vuDec [0x25, 0x10, 0x02, 1, 0, 2] 0).1 = .value 0x25 1 ∧
      (vuDec [0x25, 0x10, 0x02, 1, 0, 2] 1).1 = .value 0x10 1 ∧
      (vuDec [0x25, 0x10, 0x02, 1, 0, 2] 2).1 = .value 2 1 ∧
      (0x25 : VuValue).toNat = 0x24 + TypeTag.int16.num.toNat ∧
      ([0x25, 0x10, 0x02, 1, 0, 2] : Bytes).length < 1 + 1 + 1 + (2 : VuValue).toNat * TypeTag.int16.width := by decide
theorem witness_StreamC2s : base.CanIssue ∧ ([] : Bytes).length < 2 ^ 32 := by decide
theorem witness_ExchangeEnd :
    querying.LinkInv ∧ querying.exsOf 0 ≠ .idle ∧
      (next? (step { querying with inputs := [.timeout 0] })).map (fun t => t.exsOf 0) = some .idle := by decide
theorem witness_ExchangeStep_write :
    (running .registerQuery .token).LinkInv ∧ (running .registerQuery .token).fatal = false ∧
      (running .registerQuery .token).clients[0]? = some (client0 fun c => { c with exs := .token, exOp := some .registerQuery }) ∧
      (client0 fun c => c).written = false := by decide
theorem witness_ExchangeStep_swap :
    ({ running .streamDrain .token with clients := (withClient fun c =>
        { c with exs := .token, exOp := some .streamDrain, written := true }).clients }).LinkInv ∧ ({ running .streamDrain .token with clients := (withClient fun c =>
        { c with exs := .token, exOp := some .streamDrain, written := true }).clients }).fatal = false ∧
      ({ running .streamDrain .token with clients := (withClient fun c =>
        { c with exs := .token, exOp := some .streamDrain, written := true }).clients }).clients[0]? = some (client0 fun c => { c with exs := .token, exOp := some .streamDrain, written := true }) ∧
      ({ running .streamDrain .token with clients := (withClient fun c =>
        { c with exs := .token, exOp := some .streamDrain, written := true }).clients }).drs = .idle := by decide
theorem witness_ExchangeStep_sent :
    (running .registerWrite .sent).LinkInv ∧ (running .registerWrite .sent).fatal = false ∧
      (running .registerWrite .sent).clients[0]? = some (client0 fun c => { c with exs := .sent, exOp := some .registerWrite }) ∧
      (running .registerWrite .sent).exsOf 0 = .sent := by decide
theorem witness_ExchangeStep_decoded :
    decodedPoll.LinkInv ∧ decodedPoll.fatal = false ∧ decodedPoll.exsOf 0 = .decoded := by decide
theorem witness_ExchangeStep_nothing :
    querying.LinkInv ∧ querying.exsOf 0 = .await ∧ flushing.LinkInv ∧ flushing.drs ≠ .idle ∧
      base.LinkInv ∧ base.exsOf 0 = .idle ∧ dead.LinkInv ∧ dead.fatal = true := by decide
theorem witness_Fatal :
    dead.fatal = true ∧ (Instr.vuEnc 0).port ≠ .wire ∧ dead.issuer < dead.clients.length ∧
      Stimulus.txWrite ≠ .reset ∧ (next? (dead.act .txWrite)).isSome = true := by decide
theorem witness_Refused_busy :
    (Instr.vuEnc 0).port ≠ .wire ∧ querying.issuer < querying.clients.length ∧ ¬ querying.CanIssue := by decide
theorem witness_Refused_noCommand :
    1 < base.clients.length ∧ decode .command [0x06] = Except.error .unknownCode := by decide
theorem witness_steps :
    (next? (step { base with inputs := [.rxArrive 0] })).isSome = true := by decide
theorem witness_TokenKept :
    holder.LinkInv ∧ holder.token = .held 0 ∧ (next? (holder.act (.rxArrive 0))).isSome = true := by decide
theorem witness_Separate :
    (next? (base.act (.command 0 [0x20]))).isSome = true ∧ (next? (base.act (.cancel 0))).isSome = true := by decide

end Sys2Proof.Tests
end

section
/-! The straps (10_state.md R31, R32): what every named operation, every instruction and every step leaves
of SOURCE_ID, CRC_ENFORCE, RESYNC_WINDOW, DEST_ID and CHANNEL. A requester's straps are touched only
through `modClient`, so each operation comes down to `State.modClient_straps` or to no change at all. -/

namespace Sys2Proof.Machine

open Sys2Proof

/-! ### Updates of the state -/

section Updates

variable (r : Nat) (s : State)

@[simp] theorem State.ret_straps (res : Result) : (s.ret r res).straps = s.straps := rfl
@[simp] theorem State.emit_straps (es : List Event) : (s.emit es).straps = s.straps := rfl
@[simp] theorem State.raise_straps (c : Cause) : (s.raise c r).straps = s.straps := rfl
@[simp] theorem State.startDrain_straps : (s.startDrain r).straps = s.straps := rfl
@[simp] theorem State.acceptRead_straps (filter : Option Id7) :
    (s.acceptRead r filter).straps = s.straps := rfl
@[simp] theorem State.fetched_straps (rd : Reader) : (s.fetched rd).straps = s.straps := rfl
@[simp] theorem State.stop_straps (why : StopReason) : (s.stop why).straps = s.straps := rfl
@[simp] theorem State.rxArrive_straps (b : Byte) : (s.rxArrive b).straps = s.straps := rfl
@[simp] theorem State.discard_straps : s.discard.straps = s.straps := rfl

@[simp] theorem State.endCommand_straps (res : Result) : (s.endCommand r res).straps = s.straps :=
  s.modClient_straps r _ fun _ => ⟨rfl, rfl⟩

@[simp] theorem State.appendRequest_straps (bs : Bytes) : (s.appendRequest r bs).straps = s.straps :=
  s.modClient_straps r _ fun _ => ⟨rfl, rfl⟩

@[simp] theorem State.conclude_straps (res : Result) : (s.conclude r res).straps = s.straps :=
  s.modClient_straps r _ fun _ => ⟨rfl, rfl⟩

/-- The reset event keeps the straps (70_reset_and_hazards.md R380, R381). -/
@[simp] theorem State.resetEvent_straps : s.resetEvent.straps = s.straps := by
  simp [State.straps, State.resetEvent, State.initial, Client.fresh, Function.comp_def]

end Updates

/-! ### What the commands share -/

section Commands

variable (r : Nat) (s : State)

@[simp] theorem State.requestToken_straps (op : Option ExOp) :
    (s.requestToken op r).straps = s.straps := by
  obtain ⟨-, h⟩ | ⟨-, h⟩ := s.requestToken_cases op r
  · rw [h, State.raise_straps]
  · rw [h]
    exact s.modClient_straps r _ fun _ => ⟨rfl, rfl⟩

@[simp] theorem State.appendWriteMultiple_straps (t : TypeTag) (start : U32) (vals : List TV) :
    (s.appendWriteMultiple t start vals r).straps = s.straps := by
  unfold State.appendWriteMultiple
  split
  · simp
  · split <;> simp

theorem State.buildFrame_straps {s s' : State} {srcId dstId : Id7} {rr : Bool} {payload bs : Bytes}
    (h : s.buildFrame srcId rr dstId payload = some (bs, s')) : s'.straps = s.straps := by
  unfold State.buildFrame at h
  split at h
  · cases h
  · cases h
    rfl

@[simp] theorem State.takeReply_straps (i : Instr) : (s.takeReply i r).straps = s.straps := by
  unfold State.takeReply
  split <;> rfl

@[simp] theorem State.runParse_straps (payload : Bytes) :
    (s.runParse payload).2.straps = s.straps := by
  unfold State.runParse
  dsimp only
  split <;> rfl

@[simp] theorem State.parseFor_straps (payload : Bytes) :
    (s.parseFor payload r).straps = s.straps := by
  have hp := s.runParse_straps payload
  unfold State.parseFor
  split <;> simpa [*] using hp

@[simp] theorem State.acceptStream_straps (own : U32) (channel : VuValue) (data : Bytes) :
    (s.acceptStream r own channel data).straps = s.straps := by
  unfold State.acceptStream
  split
  · exact s.modClient_straps r _ fun _ => ⟨rfl, rfl⟩
  · rfl

@[simp] theorem State.requestRegisterExchange_straps (op : ExOp) (c : Client) :
    (s.requestRegisterExchange op r c).straps = s.straps := by
  unfold State.requestRegisterExchange
  split <;> simp

@[simp] theorem State.retDecoded_straps (f : Frame) (c : BitVec 16) :
    (s.retDecoded f c r).straps = s.straps := by
  unfold State.retDecoded
  dsimp only
  split <;> rfl

@[simp] theorem State.retVarint_straps (res : VuResult) :
    (s.retVarint res r).straps = s.straps := by
  cases res <;> rfl

end Commands

/-! ### The exchange -/

section Exchange

variable (r : Nat) (c : Client) (s : State)

theorem Client.afterFrame_straps (op : ExOp) :
    (c.afterFrame op).destId = c.destId ∧ (c.afterFrame op).channel = c.channel := by
  cases op <;> exact ⟨rfl, rfl⟩

theorem Client.takeBack_straps :
    c.takeBack.destId = c.destId ∧ c.takeBack.channel = c.channel := by
  unfold Client.takeBack
  split <;> exact ⟨rfl, rfl⟩

@[simp] theorem State.writeExchangeFrame_straps (op : ExOp) :
    (s.writeExchangeFrame op r c).straps = s.straps := by
  unfold State.writeExchangeFrame
  split
  · simp
  · rename_i bs s' hb
    calc _ = s'.straps := State.modClient_straps _ r _ fun c => c.afterFrame_straps op
      _ = s.straps := State.buildFrame_straps hb

@[simp] theorem State.exchangeStep_straps : (s.exchangeStep r).straps = s.straps := by
  obtain h | ⟨-, c, -, ⟨_, -, -, -, -, -, h⟩ | ⟨_, -, -, -, -, h⟩ | ⟨-, -, h⟩ | ⟨_, _, -, -, -, h⟩⟩ :=
    s.exchangeStep_cases r <;> simp [h]

@[simp] theorem State.decodeQuery_straps (f : Frame) : (s.decodeQuery r f).straps = s.straps := by
  have hp := s.runParse_straps f.payload
  unfold State.decodeQuery
  split <;> simpa [*] using hp

@[simp] theorem State.decodePoll_straps (f : Frame) : (s.decodePoll r c f).straps = s.straps := by
  unfold State.decodePoll
  dsimp only
  split <;> simp

@[simp] theorem State.decodeExchange_straps (op : ExOp) (f : Frame) :
    (s.decodeExchange op r c f).straps = s.straps := by
  have hm : (s.modClient r fun c => { c with exs := .decoded }).straps = s.straps :=
    s.modClient_straps r _ fun _ => ⟨rfl, rfl⟩
  cases op <;> simpa [State.decodeExchange] using hm

end Exchange

/-! ### The link arbiter, the engines and the events -/

section Link

variable (r : Nat) (s : State)

@[simp] theorem State.grant_straps : (s.grant r).straps = s.straps := by
  obtain h | ⟨-, -, -, ⟨-, h⟩ | ⟨-, h⟩⟩ := s.grant_cases r
  · rw [h]
  · rw [h]
    rfl
  · rw [h]
    exact s.modClient_straps r _ fun _ => ⟨rfl, rfl⟩

@[simp] theorem State.txWrite_straps : s.txWrite.straps = s.straps := by
  obtain h | ⟨-, -, h⟩ := s.txWrite_cases
  · rw [h]
  · rw [h]
    rfl

@[simp] theorem State.drained_straps (c : Client) : (s.drained r c).straps = s.straps := by
  obtain ⟨-, h⟩ | ⟨-, -, h⟩ | ⟨_, -, -, -, h⟩ | ⟨_, -, -, -, h⟩ := s.drained_cases r c
  · rw [h, State.endCommand_straps]
  · rw [h, State.ret_straps]
  · rw [h, State.acceptRead_straps]
    exact s.modClient_straps r _ fun _ => ⟨rfl, rfl⟩
  · rw [h]
    exact s.modClient_straps r _ fun _ => ⟨rfl, rfl⟩

@[simp] theorem State.txFlushed_straps : s.txFlushed.straps = s.straps := by
  obtain h | ⟨-, -, ⟨r, c, -, -, h⟩ | ⟨h, -⟩⟩ := s.txFlushed_cases
  · rw [h]
  · rw [h, State.drained_straps]
    rfl
  · rw [h]
    rfl

@[simp] theorem State.bareRead_straps (e : ReadEnd) : (s.bareRead r e).straps = s.straps := by
  cases e <;> simp [State.bareRead]

@[simp] theorem State.exchangeRead_straps (op : ExOp) (c : Client) (e : ReadEnd) :
    (s.exchangeRead op r c e).straps = s.straps := by
  cases e <;> simp [State.exchangeRead]

@[simp] theorem State.endRead_straps (e : ReadEnd) : (s.endRead e).straps = s.straps := by
  obtain ⟨h, -⟩ | ⟨r, c, -, -, -, h⟩ | ⟨r, c, op, -, -, -, h⟩ := s.endRead_cases e
  · rw [h]
    rfl
  · rw [h, State.bareRead_straps]
    rfl
  · rw [h, State.exchangeRead_straps]
    rfl

@[simp] theorem State.rxHeader_straps (b : Byte) : (s.rxHeader b).straps = s.straps := by
  unfold State.rxHeader
  dsimp only
  split
  · split
    · rfl
    · rw [State.endRead_straps, State.discard_straps]
      rfl
  · rfl

@[simp] theorem State.rxComplete_straps : s.rxComplete.straps = s.straps := by
  unfold State.rxComplete
  dsimp only
  split
  · rw [State.endRead_straps, State.discard_straps]
    rfl
  · split <;> rw [State.endRead_straps] <;> rfl

@[simp] theorem State.rxBody_straps (b : Byte) : (s.rxBody b).straps = s.straps := by
  unfold State.rxBody
  split
  · rfl
  · split
    · rfl
    · rw [State.rxComplete_straps]
      rfl

@[simp] theorem State.rxTake_straps (b : Byte) : (s.rxTake b).straps = s.straps := by
  unfold State.rxTake
  split
  case h_1 => rfl
  case h_2 => exact s.rxHeader_straps b
  case h_3 => rfl
  case h_4 => exact s.rxBody_straps b

@[simp] theorem State.rxByte_straps : s.rxByte.straps = s.straps := by
  obtain h | ⟨-, -, b, q, -, h⟩ := s.rxByte_cases
  · rw [h]
  · rw [h, State.rxTake_straps]
    rfl

@[simp] theorem State.timeout_straps : (s.timeout r).straps = s.straps := by
  unfold State.timeout
  split
  · rfl
  · split <;> simp

@[simp] theorem State.cancel_straps : (s.cancel r).straps = s.straps := by
  have hmark : (s.modClient r fun c => { c with cancelled := true }).straps = s.straps :=
    s.modClient_straps r _ fun _ => ⟨rfl, rfl⟩
  have hback : (s.modClient r Client.takeBack).straps = s.straps :=
    s.modClient_straps r _ Client.takeBack_straps
  unfold State.cancel
  split
  · rfl
  · split
    · rfl
    · split_ifs
      · exact s.modClient_straps r _ fun _ => ⟨rfl, rfl⟩
      · exact hmark
      · exact s.endRead_straps .cancelled
      · exact hmark
      · rw [State.endCommand_straps, hback]
      · rfl

@[simp] theorem State.deliver_straps (bs : Bytes) : (s.deliver bs).straps = s.straps := by
  induction bs generalizing s with
  | nil => rfl
  | cons b bs ih => exact (ih _).trans (by simp)

end Link

/-! ### Instructions and ports -/

/-- Whatever next state the outcome `o` answers has the straps of `s`. -/
def State.KeepsStraps (s : State) (o : Out) : Prop := ∀ t, o = .next t → t.straps = s.straps

theorem State.keepsStraps_next {s t : State} : s.KeepsStraps (.next t) ↔ t.straps = s.straps :=
  ⟨fun h => h t rfl, by rintro h _ ⟨⟩; exact h⟩

/-- `KeepsStraps` looks at the straps of the first state only. -/
theorem State.KeepsStraps.of_straps_eq {s s' : State} {o : Out} (h : s'.KeepsStraps o)
    (hs : s'.straps = s.straps) : s.KeepsStraps o :=
  fun t ht => (h t ht).trans hs

/-- A command keeps the straps when its body does, refused or not. -/
theorem onCommand_keepsStraps {s : State} {body : Nat → Client → State}
    (h : ∀ r c, (body r c).straps = s.straps) : s.KeepsStraps (onCommand s body) := by
  obtain ⟨-, he⟩ | ⟨c, -, -, he⟩ | ⟨c, -, -, he⟩ := onCommand_cases s body
  · rintro t ht
    rw [he] at ht
    cases ht
  · rw [he, State.keepsStraps_next, State.ret_straps]
  · rw [he, State.keepsStraps_next, h]

theorem State.refuseCommand_keepsStraps (s : State) : s.KeepsStraps s.refuseCommand := by
  unfold State.refuseCommand
  split
  · rintro t ⟨⟩
  · exact State.keepsStraps_next.mpr (s.ret_straps _ _)

theorem execVuEnc_keepsStraps (value : U32) (s : State) : s.KeepsStraps (execVuEnc value s) :=
  onCommand_keepsStraps fun _ _ => rfl

theorem execVuDec_keepsStraps (src : Bytes) (s : State) : s.KeepsStraps (execVuDec src s) :=
  onCommand_keepsStraps fun r _ => State.retVarint_straps r _ _

theorem execCrc16_keepsStraps (data : Bytes) (s : State) : s.KeepsStraps (execCrc16 data s) :=
  onCommand_keepsStraps fun _ _ => rfl

theorem execLmWrite_keepsStraps (data : Bytes) (s : State) : s.KeepsStraps (execLmWrite data s) :=
  onCommand_keepsStraps fun _ _ => rfl

theorem execRqClear_keepsStraps (s : State) : s.KeepsStraps (execRqClear s) :=
  onCommand_keepsStraps fun r _ => s.modClient_straps r _ fun _ => ⟨rfl, rfl⟩

theorem execStreamWrite_keepsStraps (data : Bytes) (s : State) :
    s.KeepsStraps (execStreamWrite data s) :=
  onCommand_keepsStraps fun r _ => s.modClient_straps r _ fun _ => ⟨rfl, rfl⟩

theorem execLockRelease_keepsStraps (s : State) : s.KeepsStraps (execLockRelease s) :=
  onCommand_keepsStraps fun r _ => by split <;> rfl

theorem execLmDrain_keepsStraps (s : State) : s.KeepsStraps (execLmDrain s) :=
  onCommand_keepsStraps fun r _ => by split <;> rfl

theorem execLmReadFrame_keepsStraps (onlyFrom : Option Id7) (s : State) :
    s.KeepsStraps (execLmReadFrame onlyFrom s) :=
  onCommand_keepsStraps fun r _ => by split <;> rfl

theorem execStreamC2s_keepsStraps (channel : U32) (data : Bytes) (s : State) :
    s.KeepsStraps (execStreamC2s channel data s) :=
  onCommand_keepsStraps fun r _ => by split <;> rfl

theorem execStreamTake_keepsStraps (size : Nat) (s : State) :
    s.KeepsStraps (execStreamTake size s) :=
  onCommand_keepsStraps fun r _ => by
    split
    · rfl
    · exact s.modClient_straps r _ fun _ => ⟨rfl, rfl⟩

theorem execStreamDrain_keepsStraps (s : State) : s.KeepsStraps (execStreamDrain s) :=
  onCommand_keepsStraps fun r _ => by split <;> simp

theorem execFrameEnc_keepsStraps (srcId : Id7) (rr : Bool) (dstId : Id7) (payload : Bytes)
    (s : State) : s.KeepsStraps (execFrameEnc srcId rr dstId payload s) :=
  onCommand_keepsStraps fun r _ => by
    split
    · rfl
    · rename_i hb
      rw [State.ret_straps, State.buildFrame_straps hb]

theorem execFrameDec_keepsStraps (data : Bytes) (s : State) :
    s.KeepsStraps (execFrameDec data s) :=
  onCommand_keepsStraps fun r _ => by split <;> simp

/-- No instruction writes a strap (10_state.md R31). -/
theorem exec_keepsStraps (i : Instr) (s : State) : s.KeepsStraps (exec i s) := by
  cases i with
  | frame => exact State.keepsStraps_next.mpr (s.deliver_straps _)
  | writeSingleInt8 | writeSingleInt16 | writeSingleInt32 | writeSingleFloat
  | readSingleInt8 | readSingleInt16 | readSingleInt32 | readSingleFloat
  | readMultipleInt8 | readMultipleInt16 | readMultipleInt32 | readMultipleFloat
  | rqReadSingle | rqReadMultiple | rqWriteSingle =>
    exact onCommand_keepsStraps fun r _ => s.appendRequest_straps r _
  | writeMultipleInt8 | writeMultipleInt16 | writeMultipleInt32 | writeMultipleFloat
  | rqWriteMultiple =>
    exact onCommand_keepsStraps fun r _ => s.appendWriteMultiple_straps r _ _ _
  | replySingleInt8 | replySingleInt16 | replySingleInt32 | replySingleFloat
  | replyMultipleInt8 | replyMultipleInt16 | replyMultipleInt32 | replyMultipleFloat
  | writeError | readError =>
    exact onCommand_keepsStraps fun r _ => s.takeReply_straps r _
  | streamC2s channel data => exact execStreamC2s_keepsStraps channel data s
  | streamS2c => exact onCommand_keepsStraps fun r c => s.acceptStream_straps r c.channel _ _
  | vuEnc value => exact execVuEnc_keepsStraps value s
  | vuDec src => exact execVuDec_keepsStraps src s
  | crc16 data => exact execCrc16_keepsStraps data s
  | frameEnc srcId rr dstId payload => exact execFrameEnc_keepsStraps srcId rr dstId payload s
  | frameDec data => exact execFrameDec_keepsStraps data s
  | lockAcquire | streamPoll => exact onCommand_keepsStraps fun r _ => s.requestToken_straps r _
  | lockRelease => exact execLockRelease_keepsStraps s
  | lmDrain => exact execLmDrain_keepsStraps s
  | lmReadFrame onlyFrom => exact execLmReadFrame_keepsStraps onlyFrom s
  | lmWrite data => exact execLmWrite_keepsStraps data s
  | rqClear => exact execRqClear_keepsStraps s
  | streamWrite data => exact execStreamWrite_keepsStraps data s
  | parseRegisterReply => exact onCommand_keepsStraps fun r _ => s.parseFor_straps r _
  | registerQuery | registerWrite =>
    exact onCommand_keepsStraps fun r c => s.requestRegisterExchange_straps r _ c
  | streamDrain => exact execStreamDrain_keepsStraps s
  | streamTake size => exact execStreamTake_keepsStraps size s

theorem State.runCommand_keepsStraps (r : Nat) (bs : Bytes) (s : State) :
    s.KeepsStraps (s.runCommand r bs) := by
  unfold State.runCommand
  split
  · exact (exec_keepsStraps _ _).of_straps_eq rfl
  · exact (State.refuseCommand_keepsStraps _).of_straps_eq rfl

theorem State.fetchedSub_straps (i : Instr) (rd : Reader) (s : State) :
    (s.fetchedSub i rd).straps = s.straps := by
  unfold State.fetchedSub
  split <;> rfl

theorem State.rejectSubframe_keepsStraps (bs : Bytes) (e : Reject) (rd : Reader) (s : State) :
    s.KeepsStraps (s.rejectSubframe bs e rd) := by
  have hstop (why : StopReason) : s.KeepsStraps (onCommand s fun r _ => s.stopSub why rd r) :=
    onCommand_keepsStraps fun _ _ => rfl
  unfold State.rejectSubframe
  split
  · exact onCommand_keepsStraps fun _ _ => rfl
  · split
    · exact hstop _
    · exact onCommand_keepsStraps fun _ _ => rfl
    · split
      · exact hstop _
      · exact s.refuseCommand_keepsStraps

theorem State.runSubframe_keepsStraps (r : Nat) (bs : Bytes) (s : State) :
    s.KeepsStraps (s.runSubframe r bs) := by
  unfold State.runSubframe
  dsimp only
  split
  · exact (State.refuseCommand_keepsStraps _).of_straps_eq rfl
  · split
    · exact (exec_keepsStraps _ _).of_straps_eq (State.fetchedSub_straps _ _ _)
    · exact (State.rejectSubframe_keepsStraps _ _ _ _).of_straps_eq rfl

theorem State.runFrame_keepsStraps (bs : Bytes) (s : State) : s.KeepsStraps (s.runFrame bs) := by
  unfold State.runFrame
  split
  · exact exec_keepsStraps _ s
  · exact State.keepsStraps_next.mpr (s.deliver_straps bs)

/-! ### The step -/

/-- No agent writes a strap (00_scope.md R16, 10_state.md R31). -/
theorem State.act_keepsStraps (st : Stimulus) (s : State) : s.KeepsStraps (s.act st) := by
  cases st with
  | command r bs => exact s.runCommand_keepsStraps r bs
  | subframe r bs => exact s.runSubframe_keepsStraps r bs
  | frame bs => exact s.runFrame_keepsStraps bs
  | grant r => exact State.keepsStraps_next.mpr (s.grant_straps r)
  | exchange r => exact State.keepsStraps_next.mpr (s.exchangeStep_straps r)
  | txWrite => exact State.keepsStraps_next.mpr s.txWrite_straps
  | rxByte => exact State.keepsStraps_next.mpr s.rxByte_straps
  | rxArrive b => exact State.keepsStraps_next.mpr (s.rxArrive_straps b)
  | txFlushed => exact State.keepsStraps_next.mpr s.txFlushed_straps
  | timeout r => exact State.keepsStraps_next.mpr (s.timeout_straps r)
  | cancel r => exact State.keepsStraps_next.mpr (s.cancel_straps r)
  | reset => exact State.keepsStraps_next.mpr s.resetEvent_straps

/-- Settles O56: the scheduled stimulus is taken off `inputs` or `tick` goes on, neither being a strap, and
whatever agent it names keeps the straps. -/
theorem strapsNeverChange : Obligations.StrapsNeverChange := by
  unfold Obligations.StrapsNeverChange
  intro s
  change s.KeepsStraps (step s)
  unfold step
  split
  · exact (State.act_keepsStraps _ _).of_straps_eq rfl
  · exact (State.act_keepsStraps _ _).of_straps_eq rfl

end Sys2Proof.Machine
end

section
/-! The varuint (40_varuint.md R130 to R139). An encoding is a byte sequence whose continuation bits mark its
last byte (`IsVaruint`) and the number its groups denote (`groupValue`): the encoder gives the shortest one
of its operand, the decoder reads one of at most five bytes, and a length and a number leave room for one
only. -/

namespace Sys2Proof

open Machine

/-! ### Byte sequences that are varuints -/

/-- Bit 7 is set on every byte but the last, and there is a last (40_varuint.md R130). -/
def IsVaruint : Bytes → Prop
  | [] => False
  | b :: bs => if b.msb = true then IsVaruint bs else bs = []

@[simp] theorem not_isVaruint_nil : ¬ IsVaruint [] := id

theorem isVaruint_cons_of_msb {b : Byte} {bs : Bytes} (hb : b.msb = true) :
    IsVaruint (b :: bs) ↔ IsVaruint bs := by
  simp [IsVaruint, hb]

theorem isVaruint_cons_of_not_msb {b : Byte} {bs : Bytes} (hb : b.msb = false) :
    IsVaruint (b :: bs) ↔ bs = [] := by
  simp [IsVaruint, hb]

/-- Only the last byte of a varuint is not continued. -/
theorem IsVaruint.msb_eq_true_iff {b : Byte} {bs : Bytes} (h : IsVaruint (b :: bs)) :
    b.msb = true ↔ bs ≠ [] := by
  cases hb : b.msb with
  | false => simp [(isVaruint_cons_of_not_msb hb).mp h]
  | true =>
    refine iff_of_true rfl fun hnil => ?_
    exact not_isVaruint_nil (hnil ▸ (isVaruint_cons_of_msb hb).mp h)

theorem groupValue_lt (bs : Bytes) : groupValue bs < 128 ^ bs.length := by
  induction bs with
  | nil => simp [groupValue]
  | cons b bs ih =>
    have hb : (b.setWidth 7).toNat < 128 := (b.setWidth 7).isLt
    rw [groupValue, List.length_cons, pow_succ]
    omega

/-- A byte is its continuation bit and its group (30_encoding.md R97). -/
theorem byte_eq_of_msb_of_group {b c : Byte} (hm : b.msb = c.msb)
    (hg : b.setWidth 7 = c.setWidth 7) : b = c := by
  rw [← BitVec.cons_msb_setWidth b, ← BitVec.cons_msb_setWidth c, hm, hg]

/-- Two varuints of one length that denote one number are the same. -/
theorem IsVaruint.eq_of_groupValue_eq {bs cs : Bytes} (hb : IsVaruint bs) (hc : IsVaruint cs)
    (hl : bs.length = cs.length) (hv : groupValue bs = groupValue cs) : bs = cs := by
  induction bs generalizing cs with
  | nil => exact absurd hb not_isVaruint_nil
  | cons b bs ih =>
    obtain _ | ⟨c, cs⟩ := cs
    · exact absurd hc not_isVaruint_nil
    have hgb : (b.setWidth 7).toNat < 128 := (b.setWidth 7).isLt
    have hgc : (c.setWidth 7).toNat < 128 := (c.setWidth 7).isLt
    simp only [groupValue] at hv
    simp only [List.length_cons, Nat.add_right_cancel_iff] at hl
    have hm : b.msb = c.msb := by
      rw [Bool.eq_iff_iff, hb.msb_eq_true_iff, hc.msb_eq_true_iff, ← List.length_pos_iff,
        ← List.length_pos_iff, hl]
    have hg : b.setWidth 7 = c.setWidth 7 := BitVec.eq_of_toNat_eq (by omega)
    obtain rfl : b = c := byte_eq_of_msb_of_group hm hg
    cases hmsb : b.msb with
    | false =>
      rw [(isVaruint_cons_of_not_msb hmsb).mp hb, (isVaruint_cons_of_not_msb hmsb).mp hc]
    | true =>
      rw [ih ((isVaruint_cons_of_msb hmsb).mp hb) ((isVaruint_cons_of_msb hmsb).mp hc) hl (by omega)]

/-- A varuint that begins with a byte without the continuation bit is that byte. -/
theorem exists_isVaruint_cons_of_not_msb {b : Byte} {l : Bytes} {Q : Bytes → Prop}
    (hb : b.msb = false) : (∃ bs, bs <+: b :: l ∧ IsVaruint bs ∧ Q bs) ↔ Q [b] := by
  constructor
  · rintro ⟨_ | ⟨c, bs⟩, hp, hv, hq⟩
    · exact absurd hv not_isVaruint_nil
    · obtain ⟨rfl, -⟩ := List.cons_prefix_cons.mp hp
      obtain rfl := (isVaruint_cons_of_not_msb hb).mp hv
      exact hq
  · intro hq
    exact ⟨[b], by simp, (isVaruint_cons_of_not_msb hb).mpr rfl, hq⟩

/-- A varuint that begins with a continued byte goes on behind it. -/
theorem exists_isVaruint_cons_of_msb {b : Byte} {l : Bytes} {Q : Bytes → Prop}
    (hb : b.msb = true) :
    (∃ bs, bs <+: b :: l ∧ IsVaruint bs ∧ Q bs) ↔ ∃ bs, bs <+: l ∧ IsVaruint bs ∧ Q (b :: bs) := by
  constructor
  · rintro ⟨_ | ⟨c, bs⟩, hp, hv, hq⟩
    · exact absurd hv not_isVaruint_nil
    · obtain ⟨rfl, hp'⟩ := List.cons_prefix_cons.mp hp
      exact ⟨bs, hp', (isVaruint_cons_of_msb hb).mp hv, hq⟩
  · rintro ⟨bs, hp, hv, hq⟩
    exact ⟨b :: bs, List.cons_prefix_cons.mpr ⟨rfl, hp⟩, (isVaruint_cons_of_msb hb).mpr hv, hq⟩

/-! ### The encoder -/

theorem toNat_shiftRight_seven (v : BitVec 35) : (v >>> 7).toNat = v.toNat / 128 := by
  simp [Nat.shiftRight_eq_div_pow]

theorem shiftRight_seven_eq_zero_iff (v : BitVec 35) : v >>> 7 = 0 ↔ v.toNat < 128 := by
  rw [← BitVec.toNat_inj, toNat_shiftRight_seven]
  exact Nat.div_eq_zero_iff_lt (by decide)

theorem vuEncLoop_succ_of_lt (n : Nat) {v : BitVec 35} (hv : v.toNat < 128) :
    vuEncLoop (n + 1) v = [0#1 ++ v.setWidth 7] :=
  if_pos ((shiftRight_seven_eq_zero_iff v).mpr hv)

theorem vuEncLoop_succ_of_le (n : Nat) {v : BitVec 35} (hv : 128 ≤ v.toNat) :
    vuEncLoop (n + 1) v = (1#1 ++ v.setWidth 7) :: vuEncLoop n (v >>> 7) :=
  if_neg fun h => absurd ((shiftRight_seven_eq_zero_iff v).mp h) (by omega)

theorem vuEncLoop_succ_ne_nil (n : Nat) (v : BitVec 35) : vuEncLoop (n + 1) v ≠ [] := by
  unfold vuEncLoop
  split <;> simp

/-- The induction on the encoder's loop, for an operand that fits in the bytes it may write: a group that is
the whole operand, or a group with the continuation bit before the bytes of the rest. -/
theorem vuEncLoop_induction {P : BitVec 35 → Bytes → Prop}
    (last : ∀ v : BitVec 35, v.toNat < 128 → P v [0#1 ++ v.setWidth 7])
    (more : ∀ (v : BitVec 35) bs, 128 ≤ v.toNat → bs ≠ [] → P (v >>> 7) bs →
      P v ((1#1 ++ v.setWidth 7) :: bs))
    (n : Nat) (v : BitVec 35) (hv : v.toNat < 128 ^ (n + 1)) : P v (vuEncLoop (n + 1) v) := by
  induction n generalizing v with
  | zero =>
    rw [vuEncLoop_succ_of_lt 0 hv]
    exact last v hv
  | succ n ih =>
    obtain hlt | hle := Nat.lt_or_ge v.toNat 128
    · rw [vuEncLoop_succ_of_lt (n + 1) hlt]
      exact last v hlt
    · have hrest : (v >>> 7).toNat < 128 ^ (n + 1) := by
        rw [toNat_shiftRight_seven]
        rw [pow_succ] at hv
        omega
      rw [vuEncLoop_succ_of_le (n + 1) hle]
      exact more v _ hle (vuEncLoop_succ_ne_nil n _) (ih _ hrest)

/-- Every 35-bit operand fits in the encoder's five bytes. -/
theorem vuEnc35_induction {P : BitVec 35 → Bytes → Prop}
    (last : ∀ v : BitVec 35, v.toNat < 128 → P v [0#1 ++ v.setWidth 7])
    (more : ∀ (v : BitVec 35) bs, 128 ≤ v.toNat → bs ≠ [] → P (v >>> 7) bs →
      P v ((1#1 ++ v.setWidth 7) :: bs))
    (v : BitVec 35) : P v (vuEnc35 v) :=
  vuEncLoop_induction last more 4 v v.isLt

theorem msb_append_group (c : BitVec 1) (g : BitVec 7) : (c ++ g : Byte).msb = c.msb :=
  BitVec.msb_append.trans (by simp)

theorem setWidth_append_group (c : BitVec 1) (g : BitVec 7) : (c ++ g : Byte).setWidth 7 = g :=
  BitVec.setWidth_append_eq_right

theorem vuEnc35_isVaruint (v : BitVec 35) : IsVaruint (vuEnc35 v) := by
  refine vuEnc35_induction (P := fun _ bs => IsVaruint bs) (fun v _ => ?_) (fun v bs _ _ ih => ?_) v
  · exact (isVaruint_cons_of_not_msb (msb_append_group _ _)).mpr rfl
  · exact (isVaruint_cons_of_msb (msb_append_group _ _)).mpr ih

/-- The encoding's groups denote the operand. -/
theorem groupValue_vuEnc35 (v : BitVec 35) : groupValue (vuEnc35 v) = v.toNat := by
  refine vuEnc35_induction (P := fun v bs => groupValue bs = v.toNat) (fun v hv => ?_)
    (fun v bs _ _ ih => ?_) v
  · simp only [groupValue, setWidth_append_group, BitVec.toNat_setWidth]
    omega
  · simp only [groupValue, setWidth_append_group, BitVec.toNat_setWidth, ih, toNat_shiftRight_seven]
    omega

/-- The encoding is as short as the operand allows (40_varuint.md R131). -/
theorem length_vuEnc35_le_iff (v : BitVec 35) (k : Nat) (hk : 0 < k) :
    (vuEnc35 v).length ≤ k ↔ v.toNat < 128 ^ k := by
  refine vuEnc35_induction (P := fun v bs => ∀ k, 0 < k → (bs.length ≤ k ↔ v.toNat < 128 ^ k))
    (fun v hv k hk => ?_) (fun v bs hv hne ih k hk => ?_) v k hk
  · have : 128 ^ 1 ≤ 128 ^ k := Nat.pow_le_pow_right (by decide) hk
    simp only [List.length_singleton]
    omega
  · have hpos : 0 < bs.length := List.length_pos_of_ne_nil hne
    obtain _ | _ | k := k
    · exact absurd hk (by decide)
    · simp only [List.length_cons]
      omega
    · have := ih (k + 1) (by omega)
      rw [toNat_shiftRight_seven] at this
      rw [List.length_cons, pow_succ _ (k + 1)]
      omega

theorem length_vuEnc35_le (v : BitVec 35) : (vuEnc35 v).length ≤ 5 :=
  (length_vuEnc35_le_iff v 5 (by decide)).mpr v.isLt

/-- Byte `k` is group `k` of the operand under its continuation bit (30_encoding.md R97). -/
theorem getElem?_vuEnc35 (v : BitVec 35) (k : Nat) (hk : k < (vuEnc35 v).length) :
    (vuEnc35 v)[k]? =
      some ((if k + 1 = (vuEnc35 v).length then 0#1 else 1#1) ++ v.extractLsb' (7 * k) 7) := by
  refine vuEnc35_induction (P := fun v bs => ∀ k < bs.length,
    bs[k]? = some ((if k + 1 = bs.length then 0#1 else 1#1) ++ v.extractLsb' (7 * k) 7))
    (fun v hv k hk => ?_) (fun v bs hv hne ih k hk => ?_) v k hk
  · obtain rfl : k = 0 := by simpa using hk
    simp [BitVec.setWidth_eq_extractLsb']
  · cases k with
    | zero => simp [hne, BitVec.setWidth_eq_extractLsb']
    | succ k =>
      have hrest : (v >>> 7).extractLsb' (7 * k) 7 = v.extractLsb' (7 * (k + 1)) 7 := by
        apply BitVec.eq_of_toNat_eq
        rw [BitVec.extractLsb'_toNat, BitVec.extractLsb'_toNat, BitVec.toNat_ushiftRight,
          ← Nat.shiftRight_add, Nat.mul_succ, Nat.add_comm]
      simp [ih k (by simpa using hk), hrest]

/-! ### The decoder -/

/-- The scratch registers after one more byte (40_varuint.md R134). -/
def VuRegs.afterByte (r : VuRegs) (b : Byte) : VuRegs :=
  ⟨r.acc ||| (((b.setWidth 7).setWidth 35) <<< r.shift), r.shift + 7, r.cnt + 1⟩

/-- The scratch registers between two bytes, with `n` of the five still to be read. -/
structure VuRegs.HasLeft (n : Nat) (r : VuRegs) : Prop where
  cnt : r.cnt.toNat + n = 5
  shift : r.shift.toNat = 7 * r.cnt.toNat
  acc : r.acc.toNat < 128 ^ r.cnt.toNat

theorem VuRegs.zero_hasLeft : VuRegs.HasLeft 5 VuRegs.zero := by
  constructor <;> decide

section AfterByte

variable {n : Nat} {r : VuRegs} (h : r.HasLeft (n + 1)) (b : Byte)
include h

theorem VuRegs.HasLeft.cnt_afterByte : (VuRegs.afterByte r b).cnt.toNat = r.cnt.toNat + 1 := by
  have := h.cnt
  change (r.cnt + 1#3).toNat = _
  rw [BitVec.toNat_add, BitVec.toNat_ofNat]
  omega

theorem VuRegs.HasLeft.shift_afterByte : (VuRegs.afterByte r b).shift.toNat = r.shift.toNat + 7 := by
  have := h.cnt
  have := h.shift
  change (r.shift + 7#6).toNat = _
  rw [BitVec.toNat_add, BitVec.toNat_ofNat]
  omega

/-- The new group stands above what has been read, so the `|||` adds it. -/
theorem VuRegs.HasLeft.acc_afterByte : (VuRegs.afterByte r b).acc.toNat =
    r.acc.toNat + 128 ^ r.cnt.toNat * (b.setWidth 7).toNat := by
  have hg : (b.setWidth 7).toNat < 128 := (b.setWidth 7).isLt
  have hpow : 2 ^ r.shift.toNat = 128 ^ r.cnt.toNat := by
    rw [h.shift, pow_mul]
    rfl
  have hle : 128 ^ r.cnt.toNat ≤ 128 ^ 4 := Nat.pow_le_pow_right (by decide) (by have := h.cnt; omega)
  have hfit : (b.setWidth 7).toNat * 128 ^ r.cnt.toNat < 2 ^ 35 :=
    (Nat.mul_lt_mul_of_lt_of_le hg hle (by decide)).trans_eq (by decide)
  have hshl : (((b.setWidth 7).setWidth 35) <<< r.shift).toNat =
      (b.setWidth 7).toNat <<< r.shift.toNat := by
    rw [BitVec.shiftLeft_eq', BitVec.toNat_shiftLeft, BitVec.toNat_setWidth_of_le (by decide),
      Nat.shiftLeft_eq, hpow, Nat.mod_eq_of_lt hfit]
  rw [VuRegs.afterByte, BitVec.toNat_or, hshl, Nat.or_comm,
    ← Nat.shiftLeft_add_eq_or_of_lt (hpow ▸ h.acc), Nat.shiftLeft_eq, hpow]
  ring

theorem VuRegs.HasLeft.afterByte : (VuRegs.afterByte r b).HasLeft n := by
  have hg : (b.setWidth 7).toNat < 128 := (b.setWidth 7).isLt
  have hc := h.cnt_afterByte b
  have hs := h.shift_afterByte b
  have ha := h.acc_afterByte b
  obtain ⟨hcnt, hshift, hacc⟩ := h
  refine ⟨by omega, by omega, ?_⟩
  rw [hc, ha]
  calc r.acc.toNat + 128 ^ r.cnt.toNat * (b.setWidth 7).toNat
      < 128 ^ r.cnt.toNat * ((b.setWidth 7).toNat + 1) := by rw [Nat.mul_succ]; omega
    _ ≤ 128 ^ (r.cnt.toNat + 1) := Nat.mul_le_mul_left _ hg

end AfterByte

section Loop

variable {n : Nat} {s : Bytes} {i : Nat} {r : VuRegs}

theorem vuDecLoop_succ_of_none (h : s[i + r.cnt.toNat]? = none) :
    vuDecLoop (n + 1) s i r = (if r.cnt = 0 then .noData else .truncated, r) := by
  simp only [vuDecLoop, h]

theorem vuDecLoop_succ_of_last {b : Byte} (h : s[i + r.cnt.toNat]? = some b) (hb : b.msb = false) :
    vuDecLoop (n + 1) s i r =
      (.value (r.afterByte b).acc (r.afterByte b).cnt.toNat, r.afterByte b) := by
  simp only [vuDecLoop, h, hb, if_true, VuRegs.afterByte]

/-- The loop goes on behind a continued byte; at the fifth it is out of bytes, and overlong either way. -/
theorem vuDecLoop_succ_of_more (hr : r.HasLeft (n + 1)) {b : Byte}
    (h : s[i + r.cnt.toNat]? = some b) (hb : b.msb = true) :
    vuDecLoop (n + 1) s i r = vuDecLoop n s i (r.afterByte b) := by
  have hstep : vuDecLoop (n + 1) s i r =
      if (r.afterByte b).cnt = 5 then (.overlong, r.afterByte b)
      else vuDecLoop n s i (r.afterByte b) := by
    rw [vuDecLoop, h]
    exact if_neg (by simp [hb])
  have hcnt := (hr.afterByte b).cnt
  cases n with
  | zero => rw [hstep, vuDecLoop, ite_self]
  | succ n =>
    rw [hstep, if_neg]
    intro h5
    rw [h5] at hcnt
    exact absurd hcnt (by simp)

/-- The loop gives a value exactly when a varuint of at most `n` bytes goes on from where it stands. -/
theorem vuDecLoop_value_iff (hr : r.HasLeft n) (x : VuValue) (k : Nat) :
    (vuDecLoop n s i r).1 = .value x k ↔
      ∃ bs, bs <+: s.drop (i + r.cnt.toNat) ∧ IsVaruint bs ∧
        (bs.length ≤ n ∧ k = r.cnt.toNat + bs.length ∧
          x.toNat = r.acc.toNat + 128 ^ r.cnt.toNat * groupValue bs) := by
  induction n generalizing r with
  | zero =>
    refine iff_of_false (by simp [vuDecLoop]) ?_
    rintro ⟨bs, -, hv, hl, -⟩
    obtain rfl := List.length_eq_zero_iff.mp (Nat.le_zero.mp hl)
    exact not_isVaruint_nil hv
  | succ n ih =>
    cases hget : s[i + r.cnt.toNat]? with
    | none =>
      rw [vuDecLoop_succ_of_none hget, List.drop_eq_nil_of_le (List.getElem?_eq_none_iff.mp hget)]
      refine iff_of_false (by split <;> simp) ?_
      rintro ⟨bs, hp, hv, -⟩
      exact not_isVaruint_nil (List.eq_nil_of_prefix_nil hp ▸ hv)
    | some b =>
      obtain ⟨hlt, rfl⟩ := List.getElem?_eq_some_iff.mp hget
      rw [List.drop_eq_getElem_cons hlt]
      generalize s[i + r.cnt.toNat] = b at hget ⊢
      have hcnt := hr.cnt_afterByte b
      have hacc := hr.acc_afterByte b
      cases hb : b.msb with
      | false =>
        rw [vuDecLoop_succ_of_last hget hb, exists_isVaruint_cons_of_not_msb hb]
        simp only [VuResult.value.injEq, ← BitVec.toNat_inj, hcnt, hacc, groupValue,
          List.length_singleton, Nat.mul_zero, Nat.add_zero]
        omega
      | true =>
        rw [vuDecLoop_succ_of_more hr hget hb, ih (hr.afterByte b),
          exists_isVaruint_cons_of_msb hb, hcnt, hacc, Nat.add_assoc]
        refine exists_congr fun bs => and_congr_right' (and_congr_right' ?_)
        have hval : r.acc.toNat + 128 ^ r.cnt.toNat * groupValue (b :: bs) =
            r.acc.toNat + 128 ^ r.cnt.toNat * (b.setWidth 7).toNat +
              128 ^ (r.cnt.toNat + 1) * groupValue bs := by
          rw [groupValue]
          ring
        rw [hval, List.length_cons]
        omega

end Loop

/-- VU_DEC gives the number of the varuint of at most five bytes that stands at the cursor
(40_varuint.md R134). -/
theorem vuDec_value_iff (s : Bytes) (i : Nat) (x : VuValue) (k : Nat) :
    (vuDec s i).1 = .value x k ↔
      ∃ bs, bs <+: s.drop i ∧ IsVaruint bs ∧ bs.length ≤ 5 ∧ k = bs.length ∧
        x.toNat = groupValue bs := by
  simpa [VuRegs.zero, vuDec] using vuDecLoop_value_iff (s := s) (i := i) VuRegs.zero_hasLeft x k

/-- A byte sequence decodes whole exactly when it is a varuint of at most five bytes. -/
theorem vuDec_whole_iff (bs : Bytes) (x : VuValue) :
    (vuDec bs 0).1 = .value x bs.length ↔
      IsVaruint bs ∧ bs.length ≤ 5 ∧ x.toNat = groupValue bs := by
  rw [vuDec_value_iff, List.drop_zero]
  constructor
  · rintro ⟨cs, hp, hv, hl, he, hx⟩
    obtain rfl := hp.eq_of_length he.symm
    exact ⟨hv, hl, hx⟩
  · rintro ⟨hv, hl, hx⟩
    exact ⟨bs, ⟨[], List.append_nil bs⟩, hv, hl, rfl, hx⟩

/-- Decoding gives back what was encoded, for all 35 bits a varuint can hold. -/
theorem vuDec_vuEnc35 (v : BitVec 35) :
    (vuDec (vuEnc35 v) 0).1 = .value v (vuEnc35 v).length :=
  (vuDec_whole_iff _ v).mpr ⟨vuEnc35_isVaruint v, length_vuEnc35_le v, (groupValue_vuEnc35 v).symm⟩

/-- No encoding is longer than another byte sequence that decodes whole to the same value. -/
theorem length_vuEnc35_le_of_vuDec {bs : Bytes} {v : BitVec 35}
    (h : (vuDec bs 0).1 = .value v bs.length) : (vuEnc35 v).length ≤ bs.length := by
  obtain ⟨hb, -, hv⟩ := (vuDec_whole_iff bs v).mp h
  have hpos : 0 < bs.length := List.length_pos_of_ne_nil fun hnil => not_isVaruint_nil (hnil ▸ hb)
  rw [length_vuEnc35_le_iff v _ hpos, hv]
  exact groupValue_lt bs

/-- A byte sequence that decodes whole and is no longer than the encoding of its value is that encoding. -/
theorem eq_vuEnc35_of_vuDec {bs : Bytes} {v : BitVec 35}
    (h : (vuDec bs 0).1 = .value v bs.length) (hl : bs.length ≤ (vuEnc35 v).length) :
    vuEnc35 v = bs := by
  obtain ⟨hb, -, hv⟩ := (vuDec_whole_iff bs v).mp h
  exact (vuEnc35_isVaruint v).eq_of_groupValue_eq hb
    ((length_vuEnc35_le_of_vuDec h).antisymm hl) ((groupValue_vuEnc35 v).trans hv)

end Sys2Proof

namespace Sys2Proof.Machine

open Sys2Proof

/-! ### The statements -/

/-- Settles O9: the decoder reads whole varuints only, and the encoding of a value is one of them, the
shortest. -/
theorem varintRoundTrip : Obligations.VarintRoundTrip := by
  unfold Obligations.VarintRoundTrip
  refine ⟨fun v => vuDec_vuEnc35 _, fun bs v h hmin => ?_⟩
  exact eq_vuEnc35_of_vuDec h (hmin _ (vuDec_vuEnc35 _))

/-- VU_ENC answers its issuer with the encoding and does nothing else (40_varuint.md R131). -/
theorem exec_vuEnc {s : State} (h : s.CanIssue) (v : U32) :
    exec (.vuEnc v) s = .next (s.answered (.bytes (vuEnc v))) := by
  obtain ⟨c, -, he⟩ := onCommand_of_canIssue h fun r _ => s.ret r (.bytes (vuEnc v))
  exact he

theorem sameBytes_answered (s : State) (res : Result) : SameBytes s (s.answered res) := by
  intro x a n
  cases x <;> rfl

theorem length_vuEnc_le_iff (v : U32) (k : Nat) (hk : 0 < k) :
    (vuEnc v).length ≤ k ↔ v.toNat < 128 ^ k := by
  rw [vuEnc, length_vuEnc35_le_iff _ k hk, BitVec.toNat_setWidth_of_le (by decide)]

/-- The ranges of 40_varuint.md R131. -/
theorem length_vuEnc (v : U32) :
    (vuEnc v).length =
      (if v.toNat ≤ 0x7F then 1 else if v.toNat ≤ 0x3FFF then 2 else if v.toNat ≤ 0x1FFFFF then 3
        else if v.toNat ≤ 0xFFFFFFF then 4 else 5) := by
  have hpos : 0 < (vuEnc v).length := List.length_pos_of_ne_nil (vuEncLoop_succ_ne_nil 4 _)
  have h1 := length_vuEnc_le_iff v 1
  have h2 := length_vuEnc_le_iff v 2
  have h3 := length_vuEnc_le_iff v 3
  have h4 := length_vuEnc_le_iff v 4
  have h5 : (vuEnc v).length ≤ 5 := length_vuEnc35_le _
  split_ifs <;> omega

/-- Byte `k` of the encoding of a 32-bit operand; the operand's bits above 31 read 0. -/
theorem getElem?_vuEnc (v : U32) (k : Nat) (hk : k < (vuEnc v).length) :
    (vuEnc v)[k]? =
      some ((if k + 1 = (vuEnc v).length then 0#1 else 1#1) ++ v.extractLsb' (7 * k) 7) := by
  have hwide : (v.setWidth 35).extractLsb' (7 * k) 7 = v.extractLsb' (7 * k) 7 := by
    apply BitVec.eq_of_toNat_eq
    rw [BitVec.extractLsb'_toNat, BitVec.extractLsb'_toNat, BitVec.toNat_setWidth_of_le (by decide)]
  rw [← hwide]
  exact getElem?_vuEnc35 (v.setWidth 35) k hk

/-- The fifth byte holds the four bits above bit 27, of which a five-byte operand has one set. -/
theorem fifth_byte_of_vuEnc {v : U32} (h : (vuEnc v).length = 5) :
    ∃ b, (vuEnc v)[4]? = some b ∧ 0x01 ≤ b.toNat ∧ b.toNat ≤ 0x0F := by
  have hv : 128 ^ 4 ≤ v.toNat := by
    have := length_vuEnc_le_iff v 4 (by decide)
    omega
  have hlt := v.isLt
  have hb : (0#1 ++ v.extractLsb' (7 * 4) 7 : Byte).toNat = v.toNat / 2 ^ 28 % 2 ^ 7 := by
    refine (BitVec.toNat_append _ _).trans ?_
    simp [BitVec.extractLsb'_toNat, Nat.shiftRight_eq_div_pow]
  refine ⟨_, getElem?_vuEnc v 4 (by omega), ?_⟩
  rw [if_pos h.symm, hb]
  omega

/-- Settles O7: the answer, the ranges of the length, the bytes and the fifth byte, each by its own
lemma above. -/
theorem vuEncGivesTheShortestGroups : Obligations.VuEncGivesTheShortestGroups := by
  unfold Obligations.VuEncGivesTheShortestGroups
  intro v s h
  exact ⟨⟨_, exec_vuEnc h v, rfl, sameBytes_answered s _⟩, length_vuEnc v, getElem?_vuEnc v,
    fifth_byte_of_vuEnc⟩

end Sys2Proof.Machine
end

section
/-! CRC16 (41_crc16.md R150 to R153): the command's next state, the fold over the bytes and the step as
eight shifts by the generator. -/

namespace Sys2Proof.Machine

open Sys2Proof

/-- Bit 15 decides whether the generator is added (41_crc16.md R151). -/
theorem crcShift_eq (c : BitVec 16) :
    crcShift c = if c.getLsbD 15 then (c <<< 1) ^^^ 0x1021 else c <<< 1 := by
  rw [crcShift, BitVec.msb_eq_getLsbD_last]

/-- The byte enters in the high half, then come the eight shifts (41_crc16.md R151). -/
theorem crcStep_eq_iterate (c : BitVec 16) (b : Byte) :
    crcStep c b = crcShift^[8] (c ^^^ (b ++ 0#8)) := rfl

@[simp] theorem crc16_nil : crc16 [] = 0xFFFF := rfl

/-- The bytes of `bs` go on from the register the bytes of `as` have left. -/
theorem crc16_append (as bs : Bytes) : crc16 (as ++ bs) = bs.foldl crcStep (crc16 as) :=
  List.foldl_append

/-- One more byte is one more step (41_crc16.md R150). -/
theorem crc16_concat (data : Bytes) (b : Byte) : crc16 (data ++ [b]) = crcStep (crc16 data) b :=
  crc16_append data [b]

/-- CRC16 leaves the CRC in CRC_ACC and answers its issuer with it (41_crc16.md R150). -/
theorem exec_crc16 {s : State} (h : s.CanIssue) (data : Bytes) :
    exec (.crc16 data) s =
      .next ({ s with crcAcc := crc16 data }.answered (.crc (crc16 data))) := by
  obtain ⟨c, -, he⟩ := onCommand_of_canIssue h fun r _ =>
    { s with crcAcc := crc16 data }.ret r (.crc (crc16 data))
  exact he

/-- No byte space is behind CRC_ACC (10_state.md R36). -/
theorem sameBytes_crcAcc (s : State) (c : BitVec 16) : SameBytes s { s with crcAcc := c } := by
  intro x a n
  cases x <;> rfl

theorem SameBytes.trans {s t u : State} (hst : SameBytes s t) (htu : SameBytes t u) :
    SameBytes s u :=
  fun x a n => (htu x a n).trans (hst x a n)

/-- Settles O10: the command by `exec_crc16`, the loop by `crc16_concat`, the step by
`crcStep_eq_iterate` and `crcShift_eq`, by which the reference values of 41_crc16.md R153 are evaluated. -/
theorem crc16Runs : Obligations.Crc16Runs := by
  unfold Obligations.Crc16Runs
  refine ⟨fun data s h => ⟨_, exec_crc16 h data, rfl, ?bytes⟩, crc16_nil, crc16_concat,
    fun c b => ?step, ?values⟩
  case bytes => exact (sameBytes_crcAcc s _).trans (sameBytes_answered _ _)
  case step => rw [crcStep_eq_iterate, funext crcShift_eq]
  case values => simp [crc16, crcStep, crcShift_eq]

end Sys2Proof.Machine
end

section
/-! The frame codec (42_frame_codec.md R165 to R175): what FRAME_ENC answers, what the deframer reads where a
whole frame stands, and the round trip. -/

namespace Sys2Proof.Machine

open Sys2Proof

/-! ### The bytes of a frame -/

/-- A 16-bit word is read back from its bytes, low byte first (20_memory.md R60). -/
theorem le16_extractLsb' (v : BitVec 16) : le16 (v.extractLsb' 0 8) (v.extractLsb' 8 8) = v :=
  BitVec.extractLsb'_append_extractLsb'_eq_extractLsb' (w := 16) rfl |>.trans
    BitVec.extractLsb'_eq_self

/-- What the framer builds is the frame the claims call sent: the destination's bit 7 is 0 and the CRC
right. -/
theorem frameBytes_eq_sentFrame (srcId : Id7) (rr : Bool) (dstId : Id7) (payload : Bytes) :
    frameBytes srcId rr dstId payload = sentFrame rr srcId dstId payload := rfl

/-- A frame is `7 + L` bytes long (20_memory.md R71). -/
theorem length_wireFrame (src dst : Byte) (payload : Bytes) (crc : BitVec 16) :
    (wireFrame src dst payload crc).length = 7 + payload.length := by
  simp [wireFrame, frameHeader]
  omega

/-- The CRC covers the `5 + L` bytes in front of it (41_crc16.md R154). -/
theorem crc16_take_wireFrame (src dst : Byte) (payload : Bytes) (crc : BitVec 16) (rest : Bytes) :
    crc16 ((wireFrame src dst payload crc ++ rest).take (5 + payload.length)) =
      frameCrc src dst payload := by
  have hlen : (frameHeader src dst payload.length ++ payload).length = 5 + payload.length := by
    rw [List.length_append, frameHeader]
    rfl
  rw [wireFrame, List.append_assoc, ← hlen, List.take_left, frameCrc]

/-- A whole frame at the front of the data is read as its fields with the CRC of its first `5 + L` bytes,
whatever follows it (42_frame_codec.md R170). -/
theorem deframe_wireFrame (src dst : Byte) (payload : Bytes) (crc : BitVec 16) (rest : Bytes)
    (hl : payload.length ≤ 255) :
    deframe (wireFrame src dst payload crc ++ rest) =
      .whole (reportedFrame src dst payload crc) (frameCrc src dst payload) := by
  have hcrc := crc16_take_wireFrame src dst payload crc rest
  have hlen : (wireFrame src dst payload crc ++ rest).length = 7 + payload.length + rest.length := by
    rw [List.length_append, length_wireFrame]
  have hlo : (wireFrame src dst payload crc ++ rest).getD (5 + payload.length) 0 =
      crc.extractLsb' 0 8 := by
    simp [wireFrame, frameHeader, Nat.add_comm 5]
  have hhi : (wireFrame src dst payload crc ++ rest).getD (6 + payload.length) 0 =
      crc.extractLsb' 8 8 := by
    simp [wireFrame, frameHeader, Nat.add_comm 6]
  have hpay : ((wireFrame src dst payload crc ++ rest).drop 5).take payload.length = payload := by
    simp [wireFrame, frameHeader]
  have hmagic : le16 ((wireFrame src dst payload crc ++ rest).getD 0 0)
      ((wireFrame src dst payload crc ++ rest).getD 1 0) = Config.magic := by
    simp [wireFrame, frameHeader, le16, Config.magic]
  have hsrc : (wireFrame src dst payload crc ++ rest).getD 2 0 = src := rfl
  have hdst : (wireFrame src dst payload crc ++ rest).getD 3 0 = dst := rfl
  have hcount : ((wireFrame src dst payload crc ++ rest).getD 4 0).toNat = payload.length :=
    Nat.mod_eq_of_lt (Nat.lt_succ_of_le hl)
  rw [deframe, if_neg (by omega), if_neg (not_not.mpr hmagic), if_neg (by omega)]
  simp only [hcount]
  rw [if_neg (by omega), hcrc, hlo, hhi, hpay, hsrc, hdst, le16_extractLsb', reportedFrame]

/-- The source byte's fields are the id and the flag it was made of (30_encoding.md R91). -/
theorem setWidth_srcByte (rr : Bool) (srcId : Id7) : (srcByte rr srcId).setWidth 7 = srcId :=
  BitVec.setWidth_append_eq_right

theorem msb_srcByte (rr : Bool) (srcId : Id7) : (srcByte rr srcId).msb = rr := by
  rw [srcByte, BitVec.msb_append]
  simp

/-- The frame that was sent is reported with the fields it was built from (42_frame_codec.md R175). -/
theorem reportedFrame_of_sent (srcId : Id7) (rr : Bool) (dstId : Id7) (payload : Bytes) :
    reportedFrame (srcByte rr srcId) (dstByte dstId) payload
        (frameCrc (srcByte rr srcId) (dstByte dstId) payload) =
      { srcId := srcId, rr := rr, dstId := dstId, dstB7 := false, payload := payload,
        crcRx := frameCrc (srcByte rr srcId) (dstByte dstId) payload, crcOk := true } := by
  have hdst : dstByte dstId = srcByte false dstId := rfl
  simp [reportedFrame, hdst, setWidth_srcByte, msb_srcByte]

/-! ### The commands -/

/-- FRAME_ENC of a payload a frame can carry: CRC_ACC holds the CRC and the answer is the frame
(42_frame_codec.md R166). -/
theorem exec_frameEnc_of_lt {s : State} (h : s.CanIssue) (srcId : Id7) (rr : Bool) (dstId : Id7)
    {payload : Bytes} (hl : payload.length < 256) :
    exec (.frameEnc srcId rr dstId payload) s =
      .next ({ s with crcAcc := crc16 (frameBody srcId rr dstId payload) }.answered
        (.bytes (frameBytes srcId rr dstId payload))) := by
  have hbuild : s.buildFrame srcId rr dstId payload =
      some (frameBytes srcId rr dstId payload,
        { s with crcAcc := crc16 (frameBody srcId rr dstId payload) }) :=
    if_neg (Nat.not_lt.mpr (Nat.le_of_lt_succ hl))
  have hbody : execFrameEnc srcId rr dstId payload s = onCommand s fun r _ =>
      { s with crcAcc := crc16 (frameBody srcId rr dstId payload) }.ret r
        (.bytes (frameBytes srcId rr dstId payload)) := by
    simp only [execFrameEnc, hbuild]
  obtain ⟨c, -, he⟩ := onCommand_of_canIssue h fun r _ =>
    { s with crcAcc := crc16 (frameBody srcId rr dstId payload) }.ret r
      (.bytes (frameBytes srcId rr dstId payload))
  exact hbody.trans he

/-- FRAME_ENC of a longer payload is the fatal fault (42_frame_codec.md R166). -/
theorem exec_frameEnc_of_ge {s : State} (h : s.CanIssue) (srcId : Id7) (rr : Bool) (dstId : Id7)
    {payload : Bytes} (hl : 256 ≤ payload.length) :
    exec (.frameEnc srcId rr dstId payload) s = .next (s.faulted .payloadTooLong 2) := by
  have hbuild : s.buildFrame srcId rr dstId payload = none := if_pos hl
  have hbody : execFrameEnc srcId rr dstId payload s =
      onCommand s fun r _ => s.raise .payloadTooLong r := by
    simp only [execFrameEnc, hbuild]
  have ⟨_, hfatal, _⟩ := h
  obtain ⟨c, -, he⟩ := onCommand_of_canIssue h fun r _ => s.raise .payloadTooLong r
  exact (hbody.trans he).trans (congrArg _ (State.raise_eq_faulted .payloadTooLong hfatal))

/-- FRAME_DEC answers for the whole frame the deframer reads (42_frame_codec.md R170). -/
theorem exec_frameDec_of_whole {s : State} (h : s.CanIssue) {data : Bytes} {f : Frame}
    {c : BitVec 16} (hd : deframe data = .whole f c) :
    exec (.frameDec data) s = .next (s.retDecoded f c s.issuer) := by
  have hbody : execFrameDec data s = onCommand s fun r _ => s.retDecoded f c r := by
    simp only [execFrameDec, hd]
  obtain ⟨_, -, he⟩ := onCommand_of_canIssue h fun r _ => s.retDecoded f c r
  exact hbody.trans he

/-- A frame whose CRC is right is reported whatever CRC_ENFORCE says, with no event
(42_frame_codec.md R172). -/
theorem State.retDecoded_of_crcOk {f : Frame} (hf : f.crcOk = true) (c : BitVec 16) (s : State) :
    s.retDecoded f c s.issuer =
      { s with crcAcc := c }.answered (.decoded f (7 + f.payload.length)) := by
  simp [State.retDecoded, State.emit, State.ret, State.answered, hf]

/-- FRAME_DEC gives back the fields of a sent frame (42_frame_codec.md R175). -/
theorem exec_frameDec_frameBytes {s : State} (h : s.CanIssue) (srcId : Id7) (rr : Bool)
    (dstId : Id7) {payload : Bytes} (hl : payload.length < 256) :
    exec (.frameDec (frameBytes srcId rr dstId payload)) s =
      .next ({ s with crcAcc := crc16 (frameBody srcId rr dstId payload) }.answered
        (.decoded
          { srcId := srcId, rr := rr, dstId := dstId, dstB7 := false, payload := payload,
            crcRx := crc16 (frameBody srcId rr dstId payload), crcOk := true }
          (7 + payload.length))) := by
  have hd := deframe_wireFrame (srcByte rr srcId) (dstByte dstId) payload
    (frameCrc (srcByte rr srcId) (dstByte dstId) payload) [] (Nat.le_of_lt_succ hl)
  rw [List.append_nil, reportedFrame_of_sent] at hd
  rw [frameBytes_eq_sentFrame]
  exact (exec_frameDec_of_whole h hd).trans (congrArg _ (State.retDecoded_of_crcOk rfl _ s))

/-! ### The statements -/

/-- No fault reaches a byte space (60_exceptions.md R346). -/
theorem sameBytes_faulted (s : State) (c : Cause) (code : BitVec 4) :
    SameBytes s (s.faulted c code) := by
  intro x a n
  cases x <;> rfl

/-- Settles O14: FRAME_ENC answers the frame's bytes by `exec_frameEnc_of_lt`, whose first `5 + L` the CRC
covers, and FRAME_DEC reads them back by `exec_frameDec_frameBytes`. -/
theorem frameRoundTrip : Obligations.FrameRoundTrip := by
  unfold Obligations.FrameRoundTrip
  intro srcId rr dstId payload s h hl
  refine ⟨frameBytes srcId rr dstId payload, crc16 (frameBody srcId rr dstId payload),
    exec_frameEnc_of_lt h srcId rr dstId hl, ?crc,
    fun u hu => exec_frameDec_frameBytes hu srcId rr dstId hl⟩
  case crc =>
    have hcrc := crc16_take_wireFrame (srcByte rr srcId) (dstByte dstId) payload
      (frameCrc (srcByte rr srcId) (dstByte dstId) payload) []
    rw [List.append_nil] at hcrc
    rw [frameBytes_eq_sentFrame]
    exact hcrc.symm

/-- Settles O12: the two sides of the bound, `exec_frameEnc_of_lt` and `exec_frameEnc_of_ge`. -/
theorem frameEncBuildsTheFrame : Obligations.FrameEncBuildsTheFrame := by
  unfold Obligations.FrameEncBuildsTheFrame
  intro srcId rr dstId payload s h
  refine ⟨fun hl => ⟨_, exec_frameEnc_of_lt h srcId rr dstId hl, rfl, ?bytes⟩,
    fun hl => ⟨_, exec_frameEnc_of_ge h srcId rr dstId hl, rfl, sameBytes_faulted s _ _⟩⟩
  case bytes => exact (sameBytes_crcAcc s _).trans (sameBytes_answered _ _)

end Sys2Proof.Machine
end

section
/-! The link arbiter's release, LM_WRITE and the TX engine (43_link_manager.md R191, R193, R195): each one's
next state, the bytes it leaves, and what the link invariant says where the token's holder has nothing
outstanding. -/

namespace Sys2Proof.Machine

open Sys2Proof

/-! ### The token's holder and the engines -/

/-- Where only the token's holder can own an engine and it does not, nobody does. -/
theorem State.owner_eq_none {s : State} {r : Nat} {owner : Option Nat}
    (howner : ∀ q ∈ owner, s.token = .held q) (htoken : s.token = .held r)
    (hr : owner ≠ some r) : owner = none := by
  cases owner with
  | none => rfl
  | some q =>
    have hq : r = q := Token.held.inj (htoken.symm.trans (howner q rfl))
    exact absurd (congrArg some hq.symm) hr

/-- No drain runs while the token's holder has none outstanding (43_link_manager.md R191). -/
theorem State.LinkInv.drs_eq_idle {s : State} {r : Nat} (h : s.LinkInv)
    (htoken : s.token = .held r) (hr : s.drOwner ≠ some r) : s.drs = .idle := by
  obtain ⟨-, -, hdrain, -, -, hidle, -⟩ := h
  exact hidle.mpr (State.owner_eq_none (fun q hq => (hdrain q hq).1) htoken hr)

/-- No read runs while the token's holder has none outstanding (43_link_manager.md R191). -/
theorem State.LinkInv.rx_state_eq_idle {s : State} {r : Nat} (h : s.LinkInv)
    (htoken : s.token = .held r) (hr : s.rx.owner ≠ some r) : s.rx.state = .idle := by
  obtain ⟨-, -, -, hread, -, -, -, hidle, -⟩ := h
  exact hidle.mpr (State.owner_eq_none (fun q hq => (hread q hq).1) htoken hr)

/-! ### The commands -/

/-- LOCK_RELEASE by the token's holder (43_link_manager.md R191). -/
theorem exec_lockRelease_of_holder {s : State} (h : s.CanIssue) (htoken : s.token = .held s.issuer) :
    exec .lockRelease s = .next ({ s with token := .free }.answered .done) := by
  obtain ⟨_, -, he⟩ := onCommand_of_canIssue h fun r _ =>
    if s.token = .held r then { s with token := .free }.ret r .done else s.raise .lockMisuse r
  exact he.trans (congrArg _ (if_pos htoken))

/-- LOCK_RELEASE by anyone else is the fatal fault (43_link_manager.md R191). -/
theorem exec_lockRelease_of_not_holder {s : State} (h : s.CanIssue)
    (htoken : s.token ≠ .held s.issuer) :
    exec .lockRelease s = .next (s.faulted .lockMisuse 4) := by
  have ⟨_, hfatal, _⟩ := h
  obtain ⟨_, -, he⟩ := onCommand_of_canIssue h fun r _ =>
    if s.token = .held r then { s with token := .free }.ret r .done else s.raise .lockMisuse r
  exact he.trans (congrArg _ ((if_neg htoken).trans (State.raise_eq_faulted .lockMisuse hfatal)))

/-- LM_WRITE appends to TXBUF, whoever holds the token (43_link_manager.md R193). -/
theorem exec_lmWrite {s : State} (h : s.CanIssue) (data : Bytes) :
    exec (.lmWrite data) s = .next ({ s with txbuf := s.txbuf ++ data }.answered .done) := by
  obtain ⟨_, -, he⟩ := onCommand_of_canIssue h fun r _ =>
    { s with txbuf := s.txbuf ++ data }.ret r .done
  exact he

/-- No byte space is behind LOCK (10_state.md R36). -/
theorem sameBytes_token (s : State) (tok : Token) : SameBytes s { s with token := tok } := by
  intro x a n
  cases x <;> rfl

/-- TXBUF is a byte space of its own (10_state.md R36). -/
theorem sameBytesBut_txbuf (s : State) (bs : Bytes) :
    SameBytesBut .txbuf s { s with txbuf := bs } := by
  intro x hx a n
  cases x with
  | txbuf => exact absurd rfl hx
  | _ => rfl

theorem SameBytesBut.trans_sameBytes {y : ByteSpace} {s t u : State} (hst : SameBytesBut y s t)
    (htu : SameBytes t u) : SameBytesBut y s u :=
  fun x hx a n => (htu x a n).trans (hst x hx a n)

/-! ### The TX engine -/

/-- The transport write (43_link_manager.md R195). -/
theorem State.txWrite_of_write {s : State} (hfatal : s.fatal = false) (hdrs : s.drs = .write) :
    s.txWrite = { s with wire := s.wire ++ s.txflight, txflight := [], drs := .flush } := by
  rw [State.txWrite, if_neg (ne_true_of_eq_false hfatal), if_pos hdrs]

/-- The TX engine is disabled when FATAL = 1 or no transport write is due (43_link_manager.md R195,
60_exceptions.md R347). -/
theorem State.txWrite_of_disabled {s : State} (h : s.fatal = true ∨ s.drs ≠ .write) :
    s.txWrite = s := by
  obtain hsame | ⟨hfatal, hdrs, -⟩ := s.txWrite_cases
  · exact hsame
  · exact absurd hdrs (h.resolve_left (ne_true_of_eq_false hfatal))

/-! ### The statements -/

/-- Settles O17: the two sides of the holder's check; by the invariant a holder that may issue a command
has neither a drain nor a read running, and nobody else can have one. -/
theorem lockReleaseFrees : Obligations.LockReleaseFrees := by
  unfold Obligations.LockReleaseFrees
  intro s h
  have ⟨_, _, _, hdrain, hread, _⟩ := h
  refine ⟨fun htoken => ⟨⟨_, exec_lockRelease_of_holder h htoken, rfl, ?bytes⟩, fun hinv =>
      ⟨State.LinkInv.rx_state_eq_idle hinv htoken hread,
        State.LinkInv.drs_eq_idle hinv htoken hdrain⟩⟩,
    fun htoken => ⟨_, exec_lockRelease_of_not_holder h htoken, rfl, sameBytes_faulted s _ _⟩⟩
  case bytes => exact (sameBytes_token s _).trans (sameBytes_answered _ _)

/-- Settles O18: the next state is that of `exec_lmWrite`, and the answer reaches no byte space. -/
theorem lmWriteAppends : Obligations.LmWriteAppends := by
  unfold Obligations.LmWriteAppends
  intro data s h
  exact ⟨_, exec_lmWrite h data, rfl,
    (sameBytesBut_txbuf s _).trans_sameBytes (sameBytes_answered _ _)⟩

/-- Settles O20: the engine's step where it is enabled and where it is not. -/
theorem txEngineWritesOnce : Obligations.TxEngineWritesOnce := by
  unfold Obligations.TxEngineWritesOnce
  intro s
  exact ⟨fun hfatal hdrs => congrArg Host.Outcome.next (State.txWrite_of_write hfatal hdrs),
    fun h => congrArg Host.Outcome.next (State.txWrite_of_disabled h)⟩

end Sys2Proof.Machine
end

section
/-! The register command encoder (44_register_encoder.md R230 to R250): the bytes each request appends to the
issuer's REQBUF, and that no other byte space sees them. A sub-frame row and the host command of its type run
one body, so each statement about a type is the host command's lemma at that type. -/

namespace Sys2Proof.Machine

open Sys2Proof

/-! ### One requester's REQBUF among the byte spaces -/

/-- A register that `f` keeps reads as before under every requester. -/
theorem map_getElem?_modify_of_keeps {α : Type} (reg : Client → α) {f : Client → Client}
    (hf : ∀ c, reg (f c) = reg c) (cs : List Client) (q r : Nat) :
    (cs.modify q f)[r]?.map reg = cs[r]?.map reg := by
  rw [List.getElem?_modify]
  cases cs[r]? with
  | none => rfl
  | some c =>
    refine congrArg some ?_
    split
    · exact hf c
    · rfl

/-- A change of the issuer that keeps its WRBUF and RDBUF is seen in its REQBUF alone
(10_state.md R36). -/
theorem sameBytesBut_reqbuf (s : State) (f : Client → Client) (hwr : ∀ c, (f c).wrbuf = c.wrbuf)
    (hrd : ∀ c, (f c).rdbuf = c.rdbuf) :
    SameBytesBut (.reqbuf s.issuer) s (s.issuerWith f) := by
  intro x hx a n
  suffices hspace : (s.issuerWith f).space x = s.space x by
    rw [State.memRead, State.memRead, hspace]
  cases x with
  | reqbuf r =>
    have hr : r ≠ s.issuer := fun h => hx (congrArg ByteSpace.reqbuf h)
    exact congrArg (fun c : Option Client => (c.map Client.reqbuf).getD []) (s.modClient_other _ hr)
  | wrbuf r =>
    exact congrArg (·.getD []) (map_getElem?_modify_of_keeps Client.wrbuf hwr s.clients s.issuer r)
  | rdbuf r =>
    exact congrArg (·.getD []) (map_getElem?_modify_of_keeps Client.rdbuf hrd s.clients s.issuer r)
  | txbuf | txflight | wire | rxq | rxPayload | pay => rfl

/-- A request is seen in the issuer's REQBUF alone (44_register_encoder.md R230). -/
theorem sameBytesBut_requested (s : State) (bs : Bytes) :
    SameBytesBut (.reqbuf s.issuer) s (s.requested bs) :=
  (sameBytesBut_reqbuf s (fun c => { c with reqbuf := c.reqbuf ++ bs }) (fun _ => rfl)
    fun _ => rfl).trans_sameBytes (sameBytes_answered _ _)

/-! ### The commands -/

/-- A command that may be issued and appends `bs` ends with them in REQBUF and the result Done
(44_register_encoder.md R230). -/
theorem onCommand_appendRequest {s : State} (h : s.CanIssue) (bs : Bytes) :
    onCommand s (fun r _ => s.appendRequest r bs) = .next (s.requested bs) := by
  obtain ⟨_, -, he⟩ := onCommand_of_canIssue h fun r _ => s.appendRequest r bs
  exact he.trans (congrArg _ (s.appendRequest_eq_requested bs))

/-- RQ_CLEAR (44_register_encoder.md R231). -/
theorem exec_rqClear {s : State} (h : s.CanIssue) :
    exec .rqClear s = .next ((s.issuerWith fun c => { c with reqbuf := [] }).answered .done) := by
  obtain ⟨_, -, he⟩ := onCommand_of_canIssue h fun r _ =>
    (s.modClient r fun c => { c with reqbuf := [] }).ret r .done
  exact he

/-- RQ_READ_SINGLE of any type (44_register_encoder.md R232 to R235). -/
theorem exec_rqReadSingle {s : State} (h : s.CanIssue) (reg : U32) (t : TypeTag) :
    exec (.rqReadSingle reg t) s =
      .next (s.requested ([0x18 + t.num.setWidth 8] ++ vuEnc reg)) :=
  onCommand_appendRequest h (readSingleBytes t reg)

/-- RQ_READ_MULTIPLE of any type (44_register_encoder.md R236 to R239). -/
theorem exec_rqReadMultiple {s : State} (h : s.CanIssue) (reg count : U32) (t : TypeTag) :
    exec (.rqReadMultiple reg count t) s =
      .next (s.requested ([0x1C + t.num.setWidth 8] ++ vuEnc reg ++ vuEnc count)) :=
  onCommand_appendRequest h (readMultipleBytes t reg count)

/-- RQ_WRITE_SINGLE of any value (44_register_encoder.md R240 to R243, R250). -/
theorem exec_rqWriteSingle {s : State} (h : s.CanIssue) (reg : U32) (v : TV) :
    exec (.rqWriteSingle reg v) s =
      .next (s.requested ([0x10 + v.tag.num.setWidth 8] ++ vuEnc reg ++ v.bytes)) :=
  onCommand_appendRequest h (writeSingleBytes reg v)

/-! ### WRITE_MULTIPLE -/

/-- At least one value and one type among them break neither precondition (44_register_encoder.md R251,
R252). -/
theorem writeMultipleFault_eq_none {t : TypeTag} {vals : List TV} (hne : vals ≠ [])
    (htag : ∀ v ∈ vals, v.tag = t) : writeMultipleFault vals = none := by
  cases vals with
  | nil => exact absurd rfl hne
  | cons v vs =>
    obtain ⟨hv, hvs⟩ := List.forall_mem_cons.mp htag
    have hall : vs.all (fun w => decide (w.tag = v.tag)) = true :=
      List.all_eq_true.mpr fun w hw => decide_eq_true ((hvs w hw).trans hv.symm)
    exact if_pos hall

/-- The first value has the type that all have. -/
theorem firstTag_eq {t : TypeTag} {vals : List TV} (hne : vals ≠ [])
    (htag : ∀ v ∈ vals, v.tag = t) : firstTag vals = t := by
  cases vals with
  | nil => exact absurd rfl hne
  | cons v vs => exact htag v List.mem_cons_self

/-- WRITE_MULTIPLE of at least one value, all of type `t` and encodably many, appends its sub-frame
(44_register_encoder.md R244 to R247). -/
theorem onCommand_appendWriteMultiple {s : State} (h : s.CanIssue) (start : U32) {t : TypeTag}
    {vals : List TV} (hne : vals ≠ []) (hlen : vals.length < 2 ^ 32)
    (htag : ∀ v ∈ vals, v.tag = t) :
    onCommand s (fun r _ => s.appendWriteMultiple t start vals r) =
      .next (s.requested (writeMultipleBytes t start vals)) := by
  have hbody : (fun r (_ : Client) => s.appendWriteMultiple t start vals r) =
      fun r _ => s.appendRequest r (writeMultipleBytes t start vals) := by
    funext r _
    simp only [State.appendWriteMultiple, writeMultipleFault_eq_none hne htag,
      if_neg (Nat.not_le.mpr hlen)]
  rw [hbody, onCommand_appendRequest h]

/-- The same for patterns that `mk` makes values of type `t`: the body of the sub-frame rows. -/
theorem onCommand_appendWriteMultiple_map {α : Type} {s : State} (h : s.CanIssue) (start : U32)
    {t : TypeTag} (mk : α → TV) (hmk : ∀ b, (mk b).tag = t) {vals : List α} (hne : vals ≠ [])
    (hlen : vals.length < 2 ^ 32) :
    onCommand s (fun r _ => s.appendWriteMultiple t start (vals.map mk) r) =
      .next (s.requested
        ([0x14 + t.num.setWidth 8] ++ vuEnc start ++ vuEnc (BitVec.ofNat 32 vals.length) ++
          vals.flatMap fun b => (mk b).bytes)) := by
  have hne' : vals.map mk ≠ [] := fun he => hne (List.map_eq_nil_iff.mp he)
  have hlen' : (vals.map mk).length < 2 ^ 32 := List.length_map mk ▸ hlen
  have htag : ∀ v ∈ vals.map mk, v.tag = t := List.forall_mem_map.mpr fun b _ => hmk b
  rw [onCommand_appendWriteMultiple h start hne' hlen' htag, writeMultipleBytes, List.length_map,
    List.flatMap_map]
  rfl

/-- RQ_WRITE_MULTIPLE of values of one type (44_register_encoder.md R244 to R247). -/
theorem exec_rqWriteMultiple {s : State} (h : s.CanIssue) (start : U32) {t : TypeTag}
    {vals : List TV} (hne : vals ≠ []) (hlen : vals.length < 2 ^ 32)
    (htag : ∀ v ∈ vals, v.tag = t) :
    exec (.rqWriteMultiple start vals) s =
      .next (s.requested
        ([0x14 + t.num.setWidth 8] ++ vuEnc start ++ vuEnc (BitVec.ofNat 32 vals.length) ++
          vals.flatMap TV.bytes)) := by
  obtain rfl := firstTag_eq hne htag
  exact onCommand_appendWriteMultiple h start hne hlen htag

/-- WRITE_MULTIPLE_INT8: the patterns are the bytes (44_register_encoder.md R244). -/
theorem exec_writeMultipleInt8 {s : State} (h : s.CanIssue) (start : U32) {vals : List (BitVec 8)}
    (hne : vals ≠ []) (hlen : vals.length < 2 ^ 32) :
    exec (.writeMultipleInt8 start vals) s =
      .next (s.requested
        ([0x14] ++ vuEnc start ++ vuEnc (BitVec.ofNat 32 vals.length) ++ vals)) := by
  have hbytes : vals.flatMap (fun b => (TV.i8 b).bytes) = vals := List.flatMap_singleton' vals
  have he := onCommand_appendWriteMultiple_map h start TV.i8 (fun _ => rfl) hne hlen
  rw [hbytes] at he
  exact he

/-! ### The statements -/

/-- Settles O36: the next state is that of `exec_rqClear`, and REQBUF is a space of its own. -/
theorem rqClearEmpties : Obligations.RqClearEmpties := by
  unfold Obligations.RqClearEmpties
  intro s h
  refine ⟨_, exec_rqClear h, rfl, SameBytesBut.trans_sameBytes ?reqbuf (sameBytes_answered _ _)⟩
  case reqbuf => exact sameBytesBut_reqbuf s _ (fun _ => rfl) fun _ => rfl

/-- Settles O32: `exec_rqReadSingle` and `exec_rqReadMultiple` at each type, for the sub-frames and for
the host commands. -/
theorem readRequestsAppend : Obligations.ReadRequestsAppend := by
  unfold Obligations.ReadRequestsAppend
  intro reg count s h
  have single := exec_rqReadSingle h reg
  have multiple := exec_rqReadMultiple h reg count
  exact ⟨single .int8, single .int16, single .int32, single .float,
    multiple .int8, multiple .int16, multiple .int32, multiple .float,
    single .int8, single .int16, single .int32, single .float,
    multiple .int8, multiple .int16, multiple .int32, multiple .float,
    rfl, rfl, sameBytesBut_requested s⟩

/-- Settles O33: `exec_rqWriteSingle` at a value of each type, for the sub-frames and for the host
command. -/
theorem writeSingleAppends : Obligations.WriteSingleAppends := by
  unfold Obligations.WriteSingleAppends
  intro reg s h
  have single := exec_rqWriteSingle h reg
  exact ⟨fun b => single (.i8 b), fun b => single (.i16 b), fun b => single (.i32 b),
    fun b => single (.f32 b), fun b => single (.i8 b), fun b => single (.i16 b),
    fun b => single (.i32 b), fun b => single (.f32 b), sameBytesBut_requested s⟩

/-- Settles O34: the sub-frames by `onCommand_appendWriteMultiple_map` at the constructor of their type,
the host command by `exec_rqWriteMultiple`. -/
theorem writeMultipleAppends : Obligations.WriteMultipleAppends := by
  unfold Obligations.WriteMultipleAppends
  intro start s h
  refine ⟨fun _ => exec_writeMultipleInt8 h start, ?int16, ?int32, ?float,
    fun _ _ => exec_rqWriteMultiple h start, sameBytesBut_requested s⟩
  case int16 =>
    exact fun _ => onCommand_appendWriteMultiple_map h start TV.i16 fun _ => rfl
  case int32 =>
    exact fun _ => onCommand_appendWriteMultiple_map h start TV.i32 fun _ => rfl
  case float =>
    exact fun _ => onCommand_appendWriteMultiple_map h start TV.f32 fun _ => rfl

end Sys2Proof.Machine
end

section
/-! STREAM_WRITE and STREAM_TAKE (46_stream_subframes.md R305, R306): each one's next state, and that a
change of one buffer of the issuer is seen in no other byte space. -/

namespace Sys2Proof.Machine

open Sys2Proof

/-! ### One buffer of the issuer among the byte spaces -/

/-- A register of `r` reads as before under a change of the issuer that keeps it, should `r` be the
issuer. -/
theorem map_getElem?_issuerWith_of_keeps {α : Type} (reg : Client → α) {s : State}
    {f : Client → Client} {r : Nat} (h : r = s.issuer → ∀ c, reg (f c) = reg c) :
    (s.issuerWith f).clients[r]?.map reg = s.clients[r]?.map reg := by
  by_cases hr : r = s.issuer
  · exact map_getElem?_modify_of_keeps reg (h hr) s.clients s.issuer r
  · exact congrArg (Option.map reg) (s.modClient_other f hr)

/-- A change of the issuer is seen in `y` alone when it keeps each of the three buffers that is not `y`
(10_state.md R36). -/
theorem sameBytesBut_issuerWith {y : ByteSpace} (s : State) (f : Client → Client)
    (hreq : .reqbuf s.issuer ≠ y → ∀ c, (f c).reqbuf = c.reqbuf)
    (hwr : .wrbuf s.issuer ≠ y → ∀ c, (f c).wrbuf = c.wrbuf)
    (hrd : .rdbuf s.issuer ≠ y → ∀ c, (f c).rdbuf = c.rdbuf) :
    SameBytesBut y s (s.issuerWith f) := by
  intro x hx a n
  suffices hspace : (s.issuerWith f).space x = s.space x by
    rw [State.memRead, State.memRead, hspace]
  cases x with
  | reqbuf r =>
    exact congrArg (·.getD [])
      (map_getElem?_issuerWith_of_keeps Client.reqbuf fun hr => hreq (hr ▸ hx))
  | wrbuf r =>
    exact congrArg (·.getD [])
      (map_getElem?_issuerWith_of_keeps Client.wrbuf fun hr => hwr (hr ▸ hx))
  | rdbuf r =>
    exact congrArg (·.getD [])
      (map_getElem?_issuerWith_of_keeps Client.rdbuf fun hr => hrd (hr ▸ hx))
  | txbuf | txflight | wire | rxq | rxPayload | pay => rfl

/-- WRBUF of the issuer is a byte space of its own (10_state.md R36). -/
theorem sameBytesBut_wrbuf (s : State) (g : Client → Bytes) :
    SameBytesBut (.wrbuf s.issuer) s (s.issuerWith fun c => { c with wrbuf := g c }) :=
  sameBytesBut_issuerWith s _ (fun _ _ => rfl) (fun h => absurd rfl h) fun _ _ => rfl

/-- RDBUF of the issuer is a byte space of its own (10_state.md R36). -/
theorem sameBytesBut_rdbuf (s : State) (g : Client → Bytes) :
    SameBytesBut (.rdbuf s.issuer) s (s.issuerWith fun c => { c with rdbuf := g c }) :=
  sameBytesBut_issuerWith s _ (fun _ _ => rfl) (fun _ _ => rfl) fun h => absurd rfl h

/-! ### The commands -/

/-- STREAM_WRITE (46_stream_subframes.md R305). -/
theorem exec_streamWrite {s : State} (h : s.CanIssue) (data : Bytes) :
    exec (.streamWrite data) s =
      .next ((s.issuerWith fun c => { c with wrbuf := c.wrbuf ++ data }).answered .done) := by
  obtain ⟨_, -, he⟩ := onCommand_of_canIssue h fun r _ =>
    (s.modClient r fun c => { c with wrbuf := c.wrbuf ++ data }).ret r .done
  exact he

section Take

variable {s : State} {c : Client} {size : Nat}

/-- STREAM_TAKE's two sides, by the bytes its requester has buffered (46_stream_subframes.md R306). -/
theorem exec_streamTake (h : s.CanIssue) (hc : s.clients[s.issuer]? = some c) :
    exec (.streamTake size) s = .next (if c.rdbuf.length < size then s.answered .notYet else
      (s.issuerWith fun c => { c with rdbuf := c.rdbuf.drop size }).answered
        (.bytes (c.rdbuf.take size))) :=
  onCommand_eq h hc fun r c =>
    if c.rdbuf.length < size then s.ret r .notYet
    else
      (s.modClient r fun c => { c with rdbuf := c.rdbuf.drop size }).ret r (.bytes (c.rdbuf.take size))

/-- STREAM_TAKE with fewer than `size` bytes buffered (46_stream_subframes.md R306). -/
theorem exec_streamTake_of_lt (h : s.CanIssue) (hc : s.clients[s.issuer]? = some c)
    (hlt : c.rdbuf.length < size) :
    exec (.streamTake size) s = .next (s.answered .notYet) := by
  rw [exec_streamTake h hc, if_pos hlt]

/-- STREAM_TAKE with `size` bytes buffered (46_stream_subframes.md R306). -/
theorem exec_streamTake_of_le (h : s.CanIssue) (hc : s.clients[s.issuer]? = some c)
    (hle : size ≤ c.rdbuf.length) :
    exec (.streamTake size) s =
      .next ((s.issuerWith fun c => { c with rdbuf := c.rdbuf.drop size }).answered
        (.bytes (c.rdbuf.take size))) := by
  rw [exec_streamTake h hc, if_neg hle.not_gt]

end Take

/-! ### The statement -/

/-- Settles O43: each command's next state, the buffer it changes being a space of its own; the bytes
taken and the bytes left make up what RDBUF held. -/
theorem streamBuffers : Obligations.StreamBuffers := by
  unfold Obligations.StreamBuffers
  intro data size s c h hc
  refine ⟨⟨_, exec_streamWrite h data, rfl, ?wrbuf⟩, exec_streamTake_of_lt h hc, fun hle =>
    ⟨_, c.rdbuf.take size, exec_streamTake_of_le h hc hle, rfl, List.length_take_of_le hle,
      (List.take_append_drop size c.rdbuf).symm, ?rdbuf⟩⟩
  case wrbuf => exact (sameBytesBut_wrbuf s _).trans_sameBytes (sameBytes_answered _ _)
  case rdbuf => exact (sameBytesBut_rdbuf s _).trans_sameBytes (sameBytes_answered _ _)

end Sys2Proof.Machine
end

section
/-! Events with nothing to act on (60_exceptions.md R354): where its guard fails, `tx_flushed`, `timeout(r)`
and `cancel(r)` is each the identity, whether FATAL is 0 or 1. -/

namespace Sys2Proof.Machine

open Sys2Proof

variable {s : State} {r : Nat}

/-- `tx_flushed` acts in DR_FLUSH only (43_link_manager.md R196). -/
theorem State.txFlushed_of_not_flush (h : s.drs ≠ .flush) : s.txFlushed = s := by
  obtain hs | ⟨-, hflush, -⟩ := s.txFlushed_cases
  · exact hs
  · exact absurd hflush h

/-- `timeout(r)` acts on a pending read of `r` only (60_exceptions.md R352). -/
theorem State.timeout_of_no_read (h : s.rx.owner ≠ some r ∨ s.rx.state = .idle) :
    s.timeout r = s := by
  have hnone : ¬(s.rx.owner = some r ∧ s.rx.state ≠ .idle) :=
    not_and_or.mpr (h.imp_right not_not.mpr)
  rw [State.timeout, if_neg hnone, ite_self]

/-- EXS of an existing requester is its own register. -/
theorem State.exsOf_of_client {c : Client} (hc : s.clients[r]? = some c) : s.exsOf r = c.exs := by
  rw [State.exsOf, hc]
  rfl

/-- `cancel(r)` acts on a wait, a drain, a read or a running exchange of `r` only (60_exceptions.md R353,
47_exchange.md R324). -/
theorem State.cancel_of_nothing_pending (hwait : r ∉ s.waiters)
    (hdrain : s.drOwner ≠ some r ∨ s.drs = .idle) (hread : s.rx.owner ≠ some r ∨ s.rx.state = .idle)
    (hexs : s.exsOf r = .idle) : s.cancel r = s := by
  have hnoDrain : ¬(s.drOwner = some r ∧ s.drs ≠ .idle) :=
    not_and_or.mpr (hdrain.imp_right not_not.mpr)
  have hnoRead : ¬(s.rx.owner = some r ∧ s.rx.state ≠ .idle) :=
    not_and_or.mpr (hread.imp_right not_not.mpr)
  unfold State.cancel
  cases hc : s.clients[r]? with
  | none => exact ite_self s
  | some c =>
    have hidle : c.exs = .idle := (State.exsOf_of_client hc).symm.trans hexs
    simp [hwait, hnoDrain, hnoRead, hidle]

/-- Settles O31: each event's guard fails, so the step it runs is the identity. -/
theorem eventsWithNothingToActOn : Obligations.EventsWithNothingToActOn := by
  unfold Obligations.EventsWithNothingToActOn
  intro s r
  exact ⟨fun h => congrArg Host.Outcome.next (State.txFlushed_of_not_flush h),
    fun h => congrArg Host.Outcome.next (State.timeout_of_no_read h),
    fun hwait hdrain hread hexs =>
      congrArg Host.Outcome.next (State.cancel_of_nothing_pending hwait hdrain hread hexs)⟩

end Sys2Proof.Machine
end

section
/-! The machine right after reset (70_reset_and_hazards.md R381). The rows that name one piece of state are
values `State.initial` writes; the rows "for every r" need requester `r` of `State.reset`, which is the
fresh client with the straps `r` was constructed with. -/

namespace Sys2Proof.Machine

open Sys2Proof

/-- One pair of straps for each of the `N_REQ` requesters (00_scope.md R6). -/
theorem constructedStraps_length : constructedStraps.length = Config.moreRequesters + 1 := by
  simp [constructedStraps]

/-- The list's head and its tail spell the same straps: entry `r` holds DEST_ID[r] and CHANNEL[r]. -/
theorem constructedStraps_getElem? {r : Nat} (h : r < Config.moreRequesters + 1) :
    constructedStraps[r]? = some (Config.destId r, Config.channel r) := by
  cases r with
  | zero => rfl
  | succ k =>
    have hk : (List.range Config.moreRequesters)[k]? = some k :=
      List.getElem?_range (Nat.lt_of_succ_lt_succ h)
    simp [constructedStraps, hk]

/-- The requesters after reset are the fresh clients over the constructed straps. -/
theorem State.reset_clients :
    State.reset.clients = constructedStraps.map fun p => Client.fresh p.1 p.2 := rfl

theorem State.reset_clients_length : State.reset.clients.length = Config.moreRequesters + 1 := by
  rw [State.reset_clients, List.length_map, constructedStraps_length]

theorem State.reset_clients_getElem? {r : Nat} (h : r < State.reset.clients.length) :
    State.reset.clients[r]? = some (Client.fresh (Config.destId r) (Config.channel r)) := by
  rw [State.reset_clients_length] at h
  rw [State.reset_clients, List.getElem?_map, constructedStraps_getElem? h]
  rfl

/-- Settles O55: the single registers are what `State.initial` writes, and requester `r` is the fresh client
over the straps at `r`. -/
theorem resetValues : Obligations.ResetValues := by
  unfold Obligations.ResetValues
  exact ⟨rfl, rfl, rfl, rfl, rfl, rfl, rfl, rfl, rfl, rfl, rfl, rfl, rfl, rfl, rfl, rfl, rfl, rfl, rfl, rfl,
    rfl, rfl, rfl, rfl, rfl, rfl, rfl, rfl, rfl, rfl, State.reset_clients_length,
    fun _ hr => ⟨_, State.reset_clients_getElem? hr, rfl, rfl, rfl, rfl, rfl, rfl, rfl⟩⟩

end Sys2Proof.Machine
end

section
/-! The decoders' answers (30_encoding.md): each gives instructions of its own port, within their operand
ranges. -/

namespace Sys2Proof

/-- The instruction is within its operand ranges and stands on the port `p`. -/
def Instr.FitsPort (i : Instr) (p : Port) : Prop := i.wf = true ∧ i.port = p

theorem Instr.FitsPort.port_ne_wire {i : Instr} {p : Port} (h : i.FitsPort p) (hp : p ≠ .wire) :
    i.port ≠ .wire :=
  h.2 ▸ hp

theorem decodeCommand_fits {bs : Bytes} {i : Instr} (h : decodeCommand bs = .ok i) :
    i.FitsPort .command := by
  unfold decodeCommand checked at h
  repeat' split at h
  all_goals cases h
  all_goals refine ⟨?_, rfl⟩
  any_goals assumption
  all_goals rfl

theorem Read.bind_eq_ok {α β : Type} {p : Read α} {f : α → Reader → Read β} {b : β}
    (h : (Read.bind p f).1 = .ok b) : ∃ a rd, p = (.ok a, rd) ∧ (f a rd).1 = .ok b := by
  obtain ⟨e | a, rd⟩ := p
  · cases h
  · exact ⟨a, rd, rfl, h⟩

theorem length_of_rdBytes {n : Nat} {rd rd' : Reader} {bs : Bytes}
    (h : rdBytes n rd = (.ok bs, rd')) : bs.length = n := by
  unfold rdBytes at h
  split at h
  · cases h
    rw [List.length_take, List.length_drop]
    omega
  · cases h

theorem length_rdVals_le (t : TypeTag) (n count : Nat) (rd : Reader) :
    (rdVals t n count rd).1.length ≤ count := by
  induction n generalizing count rd with
  | zero => exact Nat.zero_le _
  | succ n ih =>
    cases count with
    | zero => exact Nat.zero_le _
    | succ count =>
      unfold rdVals
      split
      · exact Nat.succ_le_succ (ih count _)
      · exact Nat.zero_le _

/-- The fields of a sub-frame make one within its ranges: a list has as many elements as its count says, or
at most as many, and a count or length is a 32-bit or a 35-bit varuint. -/
theorem decodeFields_fits {k : SubKind} {rd : Reader} {i : Instr}
    (h : (decodeFields k rd).1 = .ok i) : i.FitsPort .subframe := by
  cases k with
  | writeSingle t =>
    obtain ⟨reg, rd, -, h⟩ := Read.bind_eq_ok h
    obtain ⟨v, rd, -, h⟩ := Read.bind_eq_ok h
    cases h
    cases v <;> exact ⟨rfl, rfl⟩
  | writeMultiple t =>
    obtain ⟨start, rd, -, h⟩ := Read.bind_eq_ok h
    obtain ⟨count, rd, -, h⟩ := Read.bind_eq_ok h
    dsimp only at h
    split at h
    · rename_i hl
      have hlt := hl.trans_lt count.isLt
      cases h
      cases t <;> exact ⟨by simpa [Instr.writeMultiple, Instr.wf] using hlt, rfl⟩
    · cases h
  | readSingle t =>
    obtain ⟨reg, rd, -, h⟩ := Read.bind_eq_ok h
    cases h
    cases t <;> exact ⟨rfl, rfl⟩
  | readMultiple t =>
    obtain ⟨reg, rd, -, h⟩ := Read.bind_eq_ok h
    obtain ⟨count, rd, -, h⟩ := Read.bind_eq_ok h
    cases h
    cases t <;> exact ⟨rfl, rfl⟩
  | replySingle t =>
    obtain ⟨reg, rd, -, h⟩ := Read.bind_eq_ok h
    obtain ⟨v, rd, -, h⟩ := Read.bind_eq_ok h
    cases h
    cases v <;> exact ⟨rfl, rfl⟩
  | replyMultiple t =>
    obtain ⟨start, rd, -, h⟩ := Read.bind_eq_ok h
    obtain ⟨count, rd, -, h⟩ := Read.bind_eq_ok h
    have hle := length_rdVals_le t rd.pay.length count.toNat rd
    cases h
    cases t <;> exact ⟨by simpa [Instr.replyMultiple, Instr.wf] using hle, rfl⟩
  | writeError | readError =>
    obtain ⟨reg, rd, -, h⟩ := Read.bind_eq_ok h
    obtain ⟨code, rd, -, h⟩ := Read.bind_eq_ok h
    cases h
    exact ⟨rfl, rfl⟩
  | streamC2s | streamS2c =>
    obtain ⟨channel, rd, -, h⟩ := Read.bind_eq_ok h
    obtain ⟨len, rd, -, h⟩ := Read.bind_eq_ok h
    obtain ⟨data, rd, hdata, h⟩ := Read.bind_eq_ok h
    have hlt := (length_of_rdBytes hdata).trans_lt len.isLt
    cases h
    exact ⟨decide_eq_true hlt, rfl⟩

theorem decodeSub_fits {rd : Reader} {i : Instr} (h : (decodeSub rd).1 = .ok i) :
    i.FitsPort .subframe := by
  obtain ⟨id, rd, -, h⟩ := Read.bind_eq_ok h
  split at h
  · exact decodeFields_fits h
  · cases h

/-- The bytes of a word are the bytes it was assembled from (20_memory.md R60). -/
theorem bytesLe16_le16 (lo hi : Byte) : bytesLe16 (le16 lo hi) = [lo, hi] := by
  have hhi : (hi ++ lo).extractLsb' 8 8 = hi := BitVec.extractLsb'_append_eq_left
  have hlo : (hi ++ lo).extractLsb' 0 8 = lo := BitVec.extractLsb'_append_eq_right
  rw [bytesLe16, le16, hlo, hhi]

/-- What the frame decoder gives stood at the front of its bytes (30_encoding.md R90). -/
theorem decodeFrame_eq_ok {bs : Bytes} {i : Instr} (h : decodeFrame bs = .ok i) :
    ∃ src dst payload crc rest, i = .frame src dst payload crc ∧ payload.length ≤ 255 ∧
      bs = encode i ++ rest := by
  unfold decodeFrame at h
  split at h
  · rename_i m0 m1 src dst len rest
    split at h
    · rename_i hmagic
      split at h
      · rename_i hl
        have hlen : (rest.take len.toNat).length = len.toNat := by
          rw [List.length_take]
          omega
        have hlt := len.isLt
        obtain rfl := Except.ok.inj h
        refine ⟨src, dst, _, _, rest.drop (len.toNat + 2), rfl, by omega, ?_⟩
        have hm : bytesLe16 (le16 m0 m1) = bytesLe16 Config.magic := congrArg bytesLe16 hmagic
        rw [bytesLe16_le16] at hm
        obtain ⟨rfl, h1⟩ := List.cons.inj hm
        obtain ⟨rfl, -⟩ := List.cons.inj h1
        have hsplit : rest = rest.take len.toNat ++
            [rest.getD len.toNat 0, rest.getD (len.toNat + 1) 0] ++ rest.drop (len.toNat + 2) := by
          have h2 : rest.drop len.toNat = rest.getD len.toNat 0 :: rest.getD (len.toNat + 1) 0 ::
              rest.drop (len.toNat + 2) := by
            rw [List.drop_eq_getElem_cons (by omega), List.drop_eq_getElem_cons (by omega),
              List.getD_eq_getElem _ _ (by omega), List.getD_eq_getElem _ _ (by omega)]
          rw [List.append_assoc, List.cons_append, List.singleton_append, ← h2, List.take_append_drop]
        have hn : BitVec.ofNat 8 (rest.take len.toNat).length = len := by
          rw [hlen, BitVec.ofNat_toNat, BitVec.setWidth_eq]
        simp only [encode, hn, bytesLe16_le16]
        simpa using hsplit
      · cases h
    · cases h
  · cases h

end Sys2Proof

namespace Sys2Proof.Machine

open Sys2Proof

/-- Settles O5: a decoder at a time. -/
theorem decodedIsWellFormed : Obligations.DecodedIsWellFormed := by
  unfold Obligations.DecodedIsWellFormed
  intro p bs i h
  cases p with
  | command => exact decodeCommand_fits h
  | subframe => exact decodeSub_fits h
  | wire =>
    obtain ⟨src, dst, payload, crc, -, rfl, hl, -⟩ := decodeFrame_eq_ok h
    exact ⟨decide_eq_true hl, rfl⟩

end Sys2Proof.Machine
end

section
/-! What a command can do to the link, said once. Most bodies are quiet: they touch the issuer's buffers, the
codec's registers, the status and the histories, and nothing the link arbiter holds (`State.Quiet`). What is
left is six link actions (`State.CommandDoes`). The invariants over every step are read off from these. -/

namespace Sys2Proof.Machine

open Sys2Proof

/-! ### Quiet changes -/

/-- A requester's registers change in its buffers only, and REQBUF not while an exchange is latched. -/
structure Client.KeepsLink (c d : Client) : Prop where
  exs : d.exs = c.exs
  exOp : d.exOp = c.exOp
  written : d.written = c.written
  cancelled : d.cancelled = c.cancelled
  outcome : d.outcome = c.outcome
  reqbuf : c.exOp ≠ none → d.reqbuf = c.reqbuf

/-- `t` is `s` after a change on behalf of `r` that the link arbiter does not see. -/
structure State.Quiet (r : Nat) (s t : State) : Prop where
  token : t.token = s.token
  waiters : t.waiters = s.waiters
  txbuf : t.txbuf = s.txbuf
  txflight : t.txflight = s.txflight
  wire : t.wire = s.wire
  drs : t.drs = s.drs
  drOwner : t.drOwner = s.drOwner
  rxq : t.rxq = s.rxq
  rx : t.rx = s.rx
  fatal : s.fatal = true → t.fatal = true
  clients : ∃ f, t.clients = s.clients.modify r f ∧
    ∀ c, s.clients[r]? = some c → c.KeepsLink (f c)
  results : ∃ l, t.results = s.results ++ l ∧ ∀ p ∈ l, p.1 = r

theorem Client.KeepsLink.refl (c : Client) : c.KeepsLink c := ⟨rfl, rfl, rfl, rfl, rfl, fun _ => rfl⟩

theorem Client.KeepsLink.trans {c d e : Client} (h : c.KeepsLink d) (k : d.KeepsLink e) :
    c.KeepsLink e :=
  ⟨k.exs.trans h.exs, k.exOp.trans h.exOp, k.written.trans h.written, k.cancelled.trans h.cancelled,
    k.outcome.trans h.outcome, fun hc => (k.reqbuf (h.exOp ▸ hc)).trans (h.reqbuf hc)⟩

section Quiet

variable {r : Nat} {s t u : State}

theorem State.Quiet.trans (h : s.Quiet r t) (k : t.Quiet r u) : s.Quiet r u := by
  obtain ⟨f, hf, hlf⟩ := h.clients
  obtain ⟨g, hg, hlg⟩ := k.clients
  obtain ⟨l, hl, hlr⟩ := h.results
  obtain ⟨m, hm, hmr⟩ := k.results
  refine ⟨k.token.trans h.token, k.waiters.trans h.waiters, k.txbuf.trans h.txbuf,
    k.txflight.trans h.txflight, k.wire.trans h.wire, k.drs.trans h.drs, k.drOwner.trans h.drOwner,
    k.rxq.trans h.rxq, k.rx.trans h.rx, fun x => k.fatal (h.fatal x), ⟨g ∘ f, ?_, fun c hc => ?_⟩,
    ⟨l ++ m, ?_, fun p hp => ?_⟩⟩
  · rw [hg, hf, List.modify_modify_eq]
  · exact (hlf c hc).trans (hlg _ (by rw [hf, List.getElem?_modify_eq, hc]; rfl))
  · rw [hm, hl, List.append_assoc]
  · exact (List.mem_append.mp hp).elim (hlr p) (hmr p)

/-- The codec's registers, the events and the model's own bookkeeping are none of the link arbiter's. -/
theorem State.quiet_codec (r : Nat) (s : State) (crcAcc : BitVec 16) (vu : VuRegs) (pay : Bytes)
    (cur : Nat) (reply : ReplyMap) (lastStop : StopReason) (issuer : Nat) (events : List Event)
    (inputs : List Stimulus) (tick : Nat) :
    s.Quiet r { s with
      crcAcc := crcAcc, vu := vu, pay := pay, cur := cur, reply := reply, lastStop := lastStop
      issuer := issuer, events := events, inputs := inputs, tick := tick } :=
  ⟨rfl, rfl, rfl, rfl, rfl, rfl, rfl, rfl, rfl, id,
    ⟨id, (List.modify_id r _).symm, fun c _ => .refl c⟩, ⟨[], by simp, by simp⟩⟩

theorem State.quiet_refl (r : Nat) (s : State) : s.Quiet r s :=
  s.quiet_codec r s.crcAcc s.vu s.pay s.cur s.reply s.lastStop s.issuer s.events s.inputs s.tick

theorem State.quiet_ret (r : Nat) (res : Result) (s : State) : s.Quiet r (s.ret r res) :=
  ⟨rfl, rfl, rfl, rfl, rfl, rfl, rfl, rfl, rfl, id,
    ⟨id, (List.modify_id r _).symm, fun c _ => .refl c⟩, ⟨[(r, res)], rfl, by simp⟩⟩

theorem State.quiet_raise (c : Cause) (r : Nat) (s : State) : s.Quiet r (s.raise c r) :=
  ⟨rfl, rfl, rfl, rfl, rfl, rfl, rfl, rfl, rfl, fun _ => rfl,
    ⟨id, (List.modify_id r _).symm, fun c _ => .refl c⟩, ⟨[(r, .fatal c)], rfl, by simp⟩⟩

theorem State.quiet_modClient {f : Client → Client}
    (hf : ∀ c, s.clients[r]? = some c → c.KeepsLink (f c)) : s.Quiet r (s.modClient r f) :=
  ⟨rfl, rfl, rfl, rfl, rfl, rfl, rfl, rfl, rfl, id, ⟨f, rfl, hf⟩, ⟨[], by simp, by simp⟩⟩

theorem State.quiet_issuer (r q : Nat) (s : State) : s.Quiet r { s with issuer := q } :=
  s.quiet_codec r s.crcAcc s.vu s.pay s.cur s.reply s.lastStop q s.events s.inputs s.tick

theorem State.quiet_fetched (r : Nat) (rd : Reader) (s : State) : s.Quiet r (s.fetched rd) :=
  s.quiet_codec r s.crcAcc rd.vu rd.pay rd.cur s.reply s.lastStop s.issuer s.events s.inputs s.tick

theorem State.quiet_stop (r : Nat) (why : StopReason) (s : State) : s.Quiet r (s.stop why) :=
  s.quiet_codec r s.crcAcc s.vu s.pay s.cur s.reply why s.issuer (s.events ++ stopEvents why) s.inputs
    s.tick

theorem State.quiet_crcAcc (r : Nat) (c : BitVec 16) (s : State) : s.Quiet r { s with crcAcc := c } :=
  s.quiet_codec r c s.vu s.pay s.cur s.reply s.lastStop s.issuer s.events s.inputs s.tick

theorem State.quiet_vu (r : Nat) (vu : VuRegs) (s : State) : s.Quiet r { s with vu := vu } :=
  s.quiet_codec r s.crcAcc vu s.pay s.cur s.reply s.lastStop s.issuer s.events s.inputs s.tick

theorem State.quiet_takeReply (i : Instr) (r : Nat) (s : State) : s.Quiet r (s.takeReply i r) := by
  have hreply := s.quiet_codec r s.crcAcc s.vu s.pay s.cur
    (ReplyMap.insertAll (replyEntries i) s.reply) s.lastStop s.issuer s.events s.inputs s.tick
  unfold State.takeReply
  split
  · exact (hreply.trans (State.quiet_stop r _ _)).trans (State.quiet_ret r _ _)
  · exact hreply

theorem State.quiet_runParse (payload : Bytes) (r : Nat) (s : State) :
    s.Quiet r (s.runParse payload).2 := by
  have hregs := s.quiet_codec r s.crcAcc (parsePayload payload).2.1.vu payload
    (parsePayload payload).2.1.cur (parsePayload payload).2.2 s.lastStop s.issuer s.events s.inputs s.tick
  unfold State.runParse
  dsimp only
  split
  · exact hregs.trans (State.quiet_stop r _ _)
  · exact hregs

theorem State.quiet_parseFor (payload : Bytes) (r : Nat) (s : State) :
    s.Quiet r (s.parseFor payload r) := by
  have hp := s.quiet_runParse payload r
  unfold State.parseFor
  split
  · rename_i h
    rw [h] at hp
    exact hp.trans (State.quiet_ret r _ _)
  · rename_i h
    rw [h] at hp
    exact hp.trans (State.quiet_raise _ r _)

theorem State.quiet_acceptStream (r : Nat) (own : U32) (channel : VuValue) (data : Bytes) (s : State) :
    s.Quiet r (s.acceptStream r own channel data) := by
  unfold State.acceptStream
  split
  · exact State.quiet_modClient fun c _ => ⟨rfl, rfl, rfl, rfl, rfl, fun _ => rfl⟩
  · exact s.quiet_refl r

theorem State.quiet_retVarint (res : VuResult) (r : Nat) (s : State) : s.Quiet r (s.retVarint res r) := by
  cases res with
  | overlong => exact s.quiet_raise _ r
  | value | noData | truncated => exact s.quiet_ret r _

theorem State.quiet_retDecoded (f : Frame) (c : BitVec 16) (r : Nat) (s : State) :
    s.Quiet r (s.retDecoded f c r) := by
  have hregs := s.quiet_codec r c s.vu s.pay s.cur s.reply s.lastStop s.issuer
    (s.events ++ if f.crcOk then [] else [.crcBad]) s.inputs s.tick
  unfold State.retDecoded
  dsimp only
  split <;> exact hregs.trans (State.quiet_ret r _ _)

/-- REQBUF may grow where no exchange is latched (44_register_encoder.md R230). -/
theorem State.quiet_appendRequest {c : Client} (hc : s.clients[r]? = some c) (hop : c.exOp = none)
    (bs : Bytes) : s.Quiet r (s.appendRequest r bs) := by
  refine State.Quiet.trans (State.quiet_modClient fun d hd => ?_) (State.quiet_ret r _ _)
  obtain rfl := Option.some.inj (hc.symm.trans hd)
  exact ⟨rfl, rfl, rfl, rfl, rfl, fun h => absurd hop h⟩

theorem State.quiet_appendWriteMultiple {c : Client} (hc : s.clients[r]? = some c)
    (hop : c.exOp = none) (t : TypeTag) (start : U32) (vals : List TV) :
    s.Quiet r (s.appendWriteMultiple t start vals r) := by
  unfold State.appendWriteMultiple
  split
  · exact s.quiet_raise _ r
  · split
    · exact s.quiet_ret r _
    · exact State.quiet_appendRequest hc hop _

end Quiet

/-! ### The link actions of a command -/

/-- All the body of an accepted command `i` of `r`, whose registers are `c`, can do: a quiet change, or one
of the six actions on the link (43_link_manager.md R190 to R200, 47_exchange.md R315). -/
inductive State.CommandDoes (i : Instr) (r : Nat) (c : Client) (s : State) : State → Prop
  | quiet {t : State} (h : s.Quiet r t) : CommandDoes i r c s t
  | ask (op : Option ExOp) (hi : i.port = .command) (htoken : s.token ≠ .held r)
      (hreq : op = some .registerQuery ∨ op = some .registerWrite → c.reqbuf.length ≤ 255) :
      CommandDoes i r c s
        { s with
          waiters := waitersInsert r s.waiters
          clients := s.clients.modify r fun c => { c with exOp := op } }
  | release (hi : i = .lockRelease) (htoken : s.token = .held r) :
      CommandDoes i r c s ({ s with token := .free }.ret r .done)
  | write (data : Bytes) (hi : i = .lmWrite data) :
      CommandDoes i r c s ({ s with txbuf := s.txbuf ++ data }.ret r .done)
  | drain (hi : i.port = .command) (htoken : s.token = .held r) : CommandDoes i r c s (s.startDrain r)
  | read (filter : Option Id7) (hi : i.port = .command) (htoken : s.token = .held r) :
      CommandDoes i r c s (s.acceptRead r filter)

section CommandDoes

variable {i : Instr} {r : Nat} {c : Client} {s : State}

theorem State.requestToken_does (op : Option ExOp) (hi : i.port = .command)
    (hreq : op = some .registerQuery ∨ op = some .registerWrite → c.reqbuf.length ≤ 255) :
    s.CommandDoes i r c (s.requestToken op r) := by
  obtain ⟨-, h⟩ | ⟨htoken, h⟩ := s.requestToken_cases op r
  · exact h ▸ .quiet (s.quiet_raise _ r)
  · exact h ▸ .ask op hi htoken hreq

theorem State.requestRegisterExchange_does (op : ExOp) (hi : i.port = .command) :
    s.CommandDoes i r c (s.requestRegisterExchange op r c) := by
  unfold State.requestRegisterExchange
  split
  · exact .quiet (s.quiet_raise _ r)
  · exact State.requestToken_does _ hi fun _ => Nat.le_of_not_lt ‹_›

/-- The outcome `o` is a next state, reached as `CommandDoes` says. -/
def State.Does (i : Instr) (r : Nat) (c : Client) (s : State) (o : Out) : Prop :=
  ∃ t, o = .next t ∧ s.CommandDoes i r c t

theorem onCommand_does (hcan : s.CanIssue) (hc : s.clients[s.issuer]? = some c)
    {b : Nat → Client → State}
    (hb : ∀ r c, s.clients[r]? = some c → c.exOp = none → s.CommandDoes i r c (b r c)) :
    s.Does i s.issuer c (onCommand s b) := by
  have ⟨_, _, _, _, _, hop⟩ := hcan
  exact ⟨_, onCommand_eq hcan hc b, hb _ c hc (hop c hc)⟩

theorem onCommand_does_quiet (hcan : s.CanIssue) (hc : s.clients[s.issuer]? = some c)
    {b : Nat → Client → State}
    (hb : ∀ r c, s.clients[r]? = some c → c.exOp = none → s.Quiet r (b r c)) :
    s.Does i s.issuer c (onCommand s b) :=
  onCommand_does hcan hc fun r c hr hop => .quiet (hb r c hr hop)

theorem execStreamC2s_quiet (channel : U32) (data : Bytes) (hcan : s.CanIssue)
    (hc : s.clients[s.issuer]? = some c) : s.Does i s.issuer c (execStreamC2s channel data s) :=
  onCommand_does_quiet hcan hc fun r _ _ _ => by split <;> exact s.quiet_ret r _

theorem execFrameEnc_quiet (srcId : Id7) (rr : Bool) (dstId : Id7) (payload : Bytes)
    (hcan : s.CanIssue) (hc : s.clients[s.issuer]? = some c) :
    s.Does i s.issuer c (execFrameEnc srcId rr dstId payload s) := by
  refine onCommand_does_quiet hcan hc fun r _ _ _ => ?_
  unfold State.buildFrame
  split_ifs
  · exact s.quiet_raise _ r
  · exact (s.quiet_crcAcc r _).trans (State.quiet_ret r _ _)

theorem execFrameDec_quiet (data : Bytes) (hcan : s.CanIssue) (hc : s.clients[s.issuer]? = some c) :
    s.Does i s.issuer c (execFrameDec data s) := by
  refine onCommand_does_quiet hcan hc fun r _ _ _ => ?_
  split
  · exact s.quiet_ret r _
  · exact s.quiet_ret r _
  · exact s.quiet_retDecoded _ _ r

theorem execRqClear_quiet (hcan : s.CanIssue) (hc : s.clients[s.issuer]? = some c) :
    s.Does i s.issuer c (execRqClear s) := by
  refine onCommand_does_quiet hcan hc fun r c hr hop =>
    .trans (State.quiet_modClient fun d hd => ?_) (State.quiet_ret r _ _)
  obtain rfl := Option.some.inj (hr.symm.trans hd)
  exact ⟨rfl, rfl, rfl, rfl, rfl, fun h => absurd hop h⟩

theorem execStreamTake_quiet (size : Nat) (hcan : s.CanIssue) (hc : s.clients[s.issuer]? = some c) :
    s.Does i s.issuer c (execStreamTake size s) := by
  refine onCommand_does_quiet hcan hc fun r c _ _ => ?_
  split
  · exact s.quiet_ret r _
  · refine .trans (State.quiet_modClient fun d _ => ?_) (State.quiet_ret r _ _)
    exact ⟨rfl, rfl, rfl, rfl, rfl, fun _ => rfl⟩

theorem execStreamWrite_quiet (data : Bytes) (hcan : s.CanIssue)
    (hc : s.clients[s.issuer]? = some c) : s.Does i s.issuer c (execStreamWrite data s) := by
  refine onCommand_does_quiet hcan hc fun r c _ _ =>
    .trans (State.quiet_modClient fun d _ => ?_) (State.quiet_ret r _ _)
  exact ⟨rfl, rfl, rfl, rfl, rfl, fun _ => rfl⟩

theorem execLockRelease_does (hcan : s.CanIssue) (hc : s.clients[s.issuer]? = some c) :
    s.Does .lockRelease s.issuer c (execLockRelease s) := by
  refine onCommand_does hcan hc fun r _ _ _ => ?_
  split
  · exact .release rfl ‹_›
  · exact .quiet (s.quiet_raise _ r)

theorem execLmDrain_does (hcan : s.CanIssue) (hc : s.clients[s.issuer]? = some c) :
    s.Does .lmDrain s.issuer c (execLmDrain s) := by
  refine onCommand_does hcan hc fun r _ _ _ => ?_
  split
  · exact .drain rfl ‹_›
  · exact .quiet (s.quiet_raise _ r)

theorem execLmReadFrame_does (filter : Option Id7) (hcan : s.CanIssue)
    (hc : s.clients[s.issuer]? = some c) :
    s.Does (.lmReadFrame filter) s.issuer c (execLmReadFrame filter s) := by
  refine onCommand_does hcan hc fun r _ _ _ => ?_
  split
  · exact .read filter rfl ‹_›
  · exact .quiet (s.quiet_raise _ r)

theorem execStreamDrain_does (hcan : s.CanIssue) (hc : s.clients[s.issuer]? = some c) :
    s.Does .streamDrain s.issuer c (execStreamDrain s) := by
  refine onCommand_does hcan hc fun r _ _ _ => ?_
  split
  · exact .quiet (s.quiet_ret r _)
  · exact State.requestToken_does _ rfl (by simp)

/-- An accepted command answers a next state, and what it has done is one of `CommandDoes`. -/
theorem exec_does (hcan : s.CanIssue) (hc : s.clients[s.issuer]? = some c) (hport : i.port ≠ .wire) :
    s.Does i s.issuer c (exec i s) := by
  cases i with
  | frame => exact absurd rfl hport
  | writeSingleInt8 | writeSingleInt16 | writeSingleInt32 | writeSingleFloat
  | readSingleInt8 | readSingleInt16 | readSingleInt32 | readSingleFloat
  | readMultipleInt8 | readMultipleInt16 | readMultipleInt32 | readMultipleFloat
  | rqReadSingle | rqReadMultiple | rqWriteSingle =>
    exact onCommand_does_quiet hcan hc fun r c hr hop => State.quiet_appendRequest hr hop _
  | writeMultipleInt8 | writeMultipleInt16 | writeMultipleInt32 | writeMultipleFloat
  | rqWriteMultiple =>
    exact onCommand_does_quiet hcan hc fun r c hr hop => State.quiet_appendWriteMultiple hr hop _ _ _
  | replySingleInt8 | replySingleInt16 | replySingleInt32 | replySingleFloat
  | replyMultipleInt8 | replyMultipleInt16 | replyMultipleInt32 | replyMultipleFloat
  | writeError | readError =>
    exact onCommand_does_quiet hcan hc fun r _ _ _ => s.quiet_takeReply _ r
  | streamC2s => exact execStreamC2s_quiet _ _ hcan hc
  | streamS2c =>
    exact onCommand_does_quiet hcan hc fun r c _ _ => s.quiet_acceptStream r c.channel _ _
  | vuEnc => exact onCommand_does_quiet hcan hc fun r _ _ _ => s.quiet_ret r _
  | vuDec src =>
    exact onCommand_does_quiet hcan hc fun r _ _ _ =>
      (s.quiet_vu r (vuDec src 0).2).trans (State.quiet_retVarint (vuDec src 0).1 r _)
  | crc16 data =>
    exact onCommand_does_quiet hcan hc fun r _ _ _ =>
      (s.quiet_crcAcc r (crc16 data)).trans (State.quiet_ret r _ _)
  | frameEnc srcId rr dstId payload => exact execFrameEnc_quiet srcId rr dstId payload hcan hc
  | frameDec data => exact execFrameDec_quiet data hcan hc
  | lockAcquire | streamPoll =>
    exact onCommand_does hcan hc fun r _ _ _ => State.requestToken_does _ rfl (by simp)
  | lockRelease => exact execLockRelease_does hcan hc
  | lmWrite data => exact onCommand_does hcan hc fun r _ _ _ => .write data rfl
  | lmDrain => exact execLmDrain_does hcan hc
  | lmReadFrame filter => exact execLmReadFrame_does filter hcan hc
  | rqClear => exact execRqClear_quiet hcan hc
  | streamWrite data => exact execStreamWrite_quiet data hcan hc
  | streamTake size => exact execStreamTake_quiet size hcan hc
  | parseRegisterReply => exact onCommand_does_quiet hcan hc fun r _ _ _ => s.quiet_parseFor _ r
  | registerQuery | registerWrite =>
    exact onCommand_does hcan hc fun r c _ _ => State.requestRegisterExchange_does _ rfl
  | streamDrain => exact execStreamDrain_does hcan hc

end CommandDoes

end Sys2Proof.Machine
end

section
/-! The ports of the requesters: every instruction but the frame is a command, run or refused as a whole
(60_exceptions.md R347), and what a stimulus on a port does is a quiet change or an accepted command. -/

namespace Sys2Proof.Machine

open Sys2Proof

/-- Every instruction of a requester's port is a command with some body. -/
theorem exec_eq_onCommand {i : Instr} (hport : i.port ≠ .wire) (s : State) :
    ∃ b, exec i s = onCommand s b := by
  cases i with
  | frame => exact absurd rfl hport
  | _ => exact ⟨_, by simp only [exec]; rfl⟩

/-- A command that may not be issued is refused (60_exceptions.md R347; log 17). -/
theorem onCommand_of_not_canIssue {s : State} (hr : s.issuer < s.clients.length)
    (h : ¬ s.CanIssue) (b : Nat → Client → State) :
    onCommand s b = .next (s.ret s.issuer .refused) := by
  obtain ⟨hnone, -⟩ | ⟨_, -, -, he⟩ | ⟨_, -, hcan, -⟩ := onCommand_cases s b
  · exact absurd (List.getElem?_eq_none_iff.mp hnone) (by omega)
  · exact he
  · exact absurd hcan h

theorem exec_of_not_canIssue {i : Instr} (hport : i.port ≠ .wire) {s : State}
    (hr : s.issuer < s.clients.length) (h : ¬ s.CanIssue) :
    exec i s = .next (s.ret s.issuer .refused) := by
  obtain ⟨b, hb⟩ := exec_eq_onCommand hport s
  rw [hb, onCommand_of_not_canIssue hr h]

/-- All that presenting an instruction on a requester's port can do. -/
theorem exec_cases {i : Instr} (hport : i.port ≠ .wire) {s t : State} (h : exec i s = .next t) :
    (¬ s.CanIssue ∧ t = s.ret s.issuer .refused) ∨
    ∃ c, s.clients[s.issuer]? = some c ∧ s.CanIssue ∧ s.CommandDoes i s.issuer c t := by
  obtain ⟨b, hb⟩ := exec_eq_onCommand hport s
  obtain ⟨-, he⟩ | ⟨_, -, hno, he⟩ | ⟨c, hc, hcan, -⟩ := onCommand_cases s b
  · rw [hb, he] at h
    cases h
  · rw [hb, he] at h
    cases h
    exact .inl ⟨hno, rfl⟩
  · obtain ⟨u, hu, hdoes⟩ := exec_does (i := i) hcan hc hport
    rw [hu] at h
    cases h
    exact .inr ⟨c, hc, hcan, hdoes⟩

/-- A sub-frame leaves the link alone (log 6). -/
theorem State.CommandDoes.quiet_of_subframe {i : Instr} {r : Nat} {c : Client} {s t : State}
    (h : s.CommandDoes i r c t) (hport : i.port = .subframe) : s.Quiet r t := by
  cases h with
  | quiet h => exact h
  | ask _ hi | drain hi | read _ hi => exact absurd (hi.symm.trans hport) (by decide)
  | release hi | write _ hi =>
    subst hi
    cases hport

theorem exec_subframe_quiet {i : Instr} (hport : i.port = .subframe) {s t : State}
    (h : exec i s = .next t) : s.Quiet s.issuer t := by
  obtain ⟨-, rfl⟩ | ⟨c, -, -, hdoes⟩ := exec_cases (hport ▸ by decide) h
  · exact s.quiet_ret _ _
  · exact hdoes.quiet_of_subframe hport

/-! ### What a stimulus on a port can do -/

theorem State.refuseCommand_next {s t : State} (h : s.refuseCommand = .next t) :
    t = s.ret s.issuer .refused := by
  unfold State.refuseCommand at h
  split at h
  · cases h
  · exact (Host.Outcome.next.inj h).symm

/-- A body that is quiet whoever issues it makes a quiet command. -/
theorem onCommand_quiet {s t : State} {b : Nat → Client → State} (hb : ∀ r c, s.Quiet r (b r c))
    (h : onCommand s b = .next t) : s.Quiet s.issuer t := by
  obtain ⟨-, he⟩ | ⟨_, -, -, he⟩ | ⟨c, -, -, he⟩ := onCommand_cases s b
  · rw [he] at h
    cases h
  · rw [he] at h
    cases h
    exact s.quiet_ret _ _
  · rw [he] at h
    cases h
    exact hb _ c

theorem State.fetchedSub_quiet (i : Instr) (rd : Reader) (r : Nat) (s : State) :
    s.Quiet r (s.fetchedSub i rd) := by
  unfold State.fetchedSub
  split
  · exact s.quiet_fetched r _
  · exact s.quiet_refl r

@[simp] theorem State.fetchedSub_issuer (i : Instr) (rd : Reader) (s : State) :
    (s.fetchedSub i rd).issuer = s.issuer := by
  unfold State.fetchedSub
  split <;> rfl

theorem State.stopSub_quiet (why : StopReason) (rd : Reader) (r : Nat) (s : State) :
    s.Quiet r (s.stopSub why rd r) :=
  ((s.quiet_fetched r rd).trans (State.quiet_stop r why _)).trans (State.quiet_ret r _ _)

theorem State.rejectSubframe_quiet {bs : Bytes} {e : Reject} {rd : Reader} {s t : State}
    (h : s.rejectSubframe bs e rd = .next t) : s.Quiet s.issuer t := by
  have hstop (why : StopReason) (h : (onCommand s fun r _ => s.stopSub why rd r) = .next t) :
      s.Quiet s.issuer t := onCommand_quiet (fun r _ => s.stopSub_quiet why rd r) h
  unfold State.rejectSubframe at h
  split at h
  · exact onCommand_quiet (fun r _ => (s.quiet_fetched r rd).trans (State.quiet_raise _ r _)) h
  · split at h
    · exact hstop _ h
    · exact onCommand_quiet (fun r _ => s.quiet_fetched r rd) h
    · split at h
      · exact hstop _ h
      · exact State.refuseCommand_next h ▸ s.quiet_ret _ _

/-- A stimulus on the sub-frame port is quiet (logs 6, 28). -/
theorem State.runSubframe_quiet {r : Nat} {bs : Bytes} {s t : State}
    (h : s.runSubframe r bs = .next t) : s.Quiet r t := by
  have hissuer := s.quiet_issuer r r
  unfold State.runSubframe at h
  dsimp only at h
  split at h
  · exact hissuer.trans (State.refuseCommand_next h ▸ State.quiet_ret r _ _)
  · split at h
    · rename_i i rd hd
      have hfits : i.FitsPort .subframe := decodeSub_fits (congrArg Prod.fst hd)
      have hfetch := State.fetchedSub_quiet i rd r { s with issuer := r }
      have hexec := exec_subframe_quiet hfits.2 h
      rw [State.fetchedSub_issuer] at hexec
      exact hissuer.trans (hfetch.trans hexec)
    · exact hissuer.trans (State.rejectSubframe_quiet h)

/-- All a stimulus on a command port can do: it is refused, or the instruction read there runs. -/
theorem State.runCommand_cases {r : Nat} {bs : Bytes} {s t : State}
    (h : s.runCommand r bs = .next t) :
    t = { s with issuer := r }.ret r .refused ∨
    ∃ i c, decodeCommand bs = .ok i ∧ s.clients[r]? = some c ∧ { s with issuer := r }.CanIssue ∧
      State.CommandDoes i r c { s with issuer := r } t := by
  unfold State.runCommand at h
  split at h
  · rename_i i hd
    obtain ⟨-, ht⟩ | ⟨c, hc, hcan, hdoes⟩ :=
      exec_cases ((decodeCommand_fits hd).port_ne_wire (by decide)) h
    · exact .inl ht
    · exact .inr ⟨i, c, hd, hc, hcan, hdoes⟩
  · exact .inl (State.refuseCommand_next h)

end Sys2Proof.Machine
end

section
/-! The link invariant (43_link_manager.md R190 to R210, 47_exchange.md R315 to R325): what each change of the
link keeps of it, then every step of the machine. -/

namespace Sys2Proof.Machine

open Sys2Proof

/-! ### The receive side: all a byte step can do -/

/-- `u` is `s` after the RX engine has taken bytes of a read that goes on. -/
structure State.Reads (s u : State) : Prop where
  eq : u = { s with rxq := u.rxq, crcAcc := u.crcAcc, rx := u.rx, crcOk := u.crcOk, events := u.events }
  owner : u.rx.owner = s.rx.owner
  state : u.rx.state ≠ .idle
  rxq : ∃ n, u.rxq = s.rxq.drop n

/-- How the RX engine itself ends a read (43_link_manager.md R203, R206). -/
inductive ReadEnd.ByEngine : ReadEnd → Prop
  | frame (f : Frame) : ByEngine (.frame f)
  | noData : ByEngine .noData
  | resyncTimeout : ByEngine .resyncTimeout

/-- The byte step goes on with the read, or ends it. -/
def State.TakesByte (s t : State) : Prop :=
  s.Reads t ∨ ∃ u e, s.Reads u ∧ e.ByEngine ∧ t = u.endRead e

theorem RxEngine.headerByte_owner (b : Byte) (rx : RxEngine) : (rx.headerByte b).owner = rx.owner := by
  unfold RxEngine.headerByte
  split <;> rfl

theorem RxEngine.headerByte_state (b : Byte) (rx : RxEngine) : (rx.headerByte b).state = rx.state := by
  unfold RxEngine.headerByte
  split <;> rfl

theorem State.Reads.ends {s u : State} {e : ReadEnd} (h : s.Reads u) (he : e.ByEngine) :
    s.TakesByte (u.endRead e) :=
  .inr ⟨u, e, h, he, rfl⟩

theorem State.Reads.trans {s u v : State} (h : s.Reads u) (k : u.Reads v) : s.Reads v := by
  obtain ⟨n, hn⟩ := h.rxq
  obtain ⟨m, hm⟩ := k.rxq
  refine ⟨?_, k.owner.trans h.owner, k.state, n + m, by rw [hm, hn, List.drop_drop]⟩
  rw [k.eq, h.eq]

theorem State.Reads.takesByte {s u t : State} (h : s.Reads u) (k : u.TakesByte t) : s.TakesByte t := by
  obtain k | ⟨v, e, k, he, rfl⟩ := k
  · exact .inl (h.trans k)
  · exact (h.trans k).ends he

theorem State.rxHeader_takesByte {s : State} (b : Byte) (hstate : s.rx.state ≠ .idle) :
    s.TakesByte (s.rxHeader b) := by
  have howner : ((s.rx.feed b).headerByte b).owner = s.rx.owner := RxEngine.headerByte_owner b _
  have hst : ((s.rx.feed b).headerByte b).state ≠ .idle :=
    (RxEngine.headerByte_state b _).trans_ne hstate
  unfold State.rxHeader
  dsimp only
  split
  · split
    · exact .inl ⟨rfl, howner, by simp, 0, rfl⟩
    · refine State.Reads.ends ?_ .resyncTimeout
      exact ⟨rfl, howner, hst, _, rfl⟩
  · exact .inl ⟨rfl, howner, hst, 0, rfl⟩

theorem State.rxLength_takesByte (b : Byte) (s : State) : s.TakesByte (s.rxLength b) :=
  .inl ⟨rfl, rfl, by simp [State.rxLength], 0, rfl⟩

theorem State.rxComplete_takesByte {s : State} (hstate : s.rx.state ≠ .idle) :
    s.TakesByte s.rxComplete := by
  unfold State.rxComplete
  dsimp only
  split
  · refine State.Reads.ends ?_ .resyncTimeout
    exact ⟨rfl, rfl, hstate, _, rfl⟩
  · split
    · refine State.Reads.ends ?_ .noData
      exact ⟨rfl, rfl, hstate, 0, rfl⟩
    · refine State.Reads.ends ?_ (.frame _)
      exact ⟨rfl, rfl, hstate, 0, rfl⟩

theorem State.rxBody_takesByte {s : State} (b : Byte) (hstate : s.rx.state ≠ .idle) :
    s.TakesByte (s.rxBody b) := by
  unfold State.rxBody
  split
  · exact .inl ⟨rfl, rfl, hstate, 0, rfl⟩
  · split
    · exact .inl ⟨rfl, rfl, hstate, 0, rfl⟩
    · have hreads : s.Reads { s with
          rx := { s.rx with crc := b ++ s.rx.crc.extractLsb' 0 8, cnt := s.rx.cnt + 1 } } :=
        ⟨rfl, rfl, hstate, 0, rfl⟩
      exact hreads.takesByte (State.rxComplete_takesByte hstate)

/-- All a byte step can do (43_link_manager.md R201 to R206). -/
theorem State.rxByte_takesByte (s : State) :
    s.rxByte = s ∨ (s.fatal = false ∧ s.rx.state ≠ .idle ∧ s.TakesByte s.rxByte) := by
  obtain h | ⟨hfatal, hstate, b, q, hq, h⟩ := s.rxByte_cases
  · exact .inl h
  refine .inr ⟨hfatal, hstate, ?_⟩
  have hpop : s.Reads { s with rxq := q } := ⟨rfl, rfl, hstate, 1, by rw [hq]; rfl⟩
  rw [h]
  refine hpop.takesByte ?_
  unfold State.rxTake
  split
  · exact absurd ‹_› hstate
  · exact State.rxHeader_takesByte b hstate
  · exact State.rxLength_takesByte b _
  · exact State.rxBody_takesByte b hstate

/-- All the decode of an awaited reply can do: the requester goes to EX_DECODED, what the decode changes
besides is quiet, and it ends with the exchange's result or fatally (47_exchange.md R316, R325). -/
theorem State.decodeExchange_cases {op : ExOp} (hop : op.hasReply = true) (r : Nat) (c : Client)
    (f : Frame) (s : State) :
    ∃ u, State.Quiet r (s.modClient r fun c => { c with exs := .decoded }) u ∧
      (s.decodeExchange op r c f = u ∧ u.fatal = true ∨
        ∃ res, s.decodeExchange op r c f = u.conclude r res) := by
  cases op with
  | registerQuery =>
    have hq := State.quiet_runParse f.payload r (s.modClient r fun c => { c with exs := .decoded })
    simp only [State.decodeExchange, State.decodeQuery]
    split <;> rename_i h <;> rw [h] at hq
    · exact ⟨_, hq, .inr ⟨_, rfl⟩⟩
    · exact ⟨_, hq.trans (State.quiet_raise _ r _), .inl ⟨rfl, rfl⟩⟩
  | streamPoll =>
    have hq := State.quiet_fetched r (s2c (Reader.start f.payload)).2
      (s.modClient r fun c => { c with exs := .decoded })
    simp only [State.decodeExchange, State.decodePoll]
    split
    · exact ⟨_, hq.trans (State.quiet_acceptStream r _ _ _ _), .inr ⟨_, rfl⟩⟩
    · exact ⟨_, hq, .inr ⟨_, rfl⟩⟩
    · exact ⟨_, hq.trans (State.quiet_raise _ r _), .inl ⟨rfl, rfl⟩⟩
  | registerWrite | streamDrain => cases hop

/-! ### What changes of the link keep -/

/-- The registers of a requester after a change of `r`. -/
theorem getElem?_modify_cases {cs : List Client} {r q : Nat} {f : Client → Client} {d : Client}
    (h : (cs.modify r f)[q]? = some d) :
    (r ≠ q ∧ cs[q]? = some d) ∨ (r = q ∧ ∃ c, cs[q]? = some c ∧ d = f c) := by
  rw [List.getElem?_modify] at h
  obtain ⟨c, hc, rfl⟩ := Option.map_eq_some_iff.mp h
  by_cases hr : r = q
  · exact .inr ⟨hr, c, hc, by rw [if_pos hr]⟩
  · exact .inl ⟨hr, by rw [if_neg hr, hc]⟩

theorem State.LinkInv.client {s : State} (h : s.LinkInv) {r : Nat} {c : Client}
    (hc : s.clients[r]? = some c) : ClientInv s r c := by
  obtain ⟨-, -, -, -, -, -, -, -, hclients⟩ := h
  exact hclients r (List.getElem?_eq_some_iff.mp hc).1 c hc

/-- The link invariant, with the requesters after a change of `r` taken apart. -/
theorem State.linkInv_of_modify {t : State} {cs : List Client} {r : Nat} {f : Client → Client}
    (hcs : t.clients = cs.modify r f) (hrising : t.waiters.Pairwise (· < ·))
    (hwaiters : ∀ q ∈ t.waiters, q < cs.length)
    (hdrain : ∀ q, t.drOwner = some q → t.token = .held q ∧ q < cs.length)
    (hread : ∀ q, t.rx.owner = some q → t.token = .held q ∧ q < cs.length)
    (hone : t.drOwner = none ∨ t.rx.owner = none) (hdrs : t.drs = .idle ↔ t.drOwner = none)
    (hflight : t.txflight ≠ [] → t.drs = .write) (hrx : t.rx.state = .idle ↔ t.rx.owner = none)
    (hother : ∀ q c, r ≠ q → cs[q]? = some c → ClientInv t q c)
    (hself : ∀ c, cs[r]? = some c → ClientInv t r (f c)) : t.LinkInv := by
  have hlen : t.clients.length = cs.length := by rw [hcs, List.length_modify]
  refine ⟨hrising, hlen ▸ hwaiters, hlen ▸ hdrain, hlen ▸ hread, hone, hdrs, hflight, hrx,
    fun q _ d hd => ?_⟩
  rw [hcs] at hd
  obtain ⟨hq, hc⟩ | ⟨rfl, c, hc, rfl⟩ := getElem?_modify_cases hd
  · exact hother q d hq hc
  · exact hself c hc

/-- With the token free nobody owns an engine. -/
theorem State.owner_eq_none_of_free {s : State} {owner : Option Nat}
    (howner : ∀ q ∈ owner, s.token = .held q ∧ q < s.clients.length) (hfree : s.token = .free) :
    owner = none :=
  Option.eq_none_iff_forall_not_mem.mpr fun q hq =>
    absurd (hfree.symm.trans (howner q hq).1) (by simp)

section Keeps

variable {s t : State} {r : Nat} {c : Client}

theorem State.LinkInv.quiet (h : s.LinkInv) (hq : s.Quiet r t) : t.LinkInv := by
  have hclient := @h.client
  obtain ⟨h1, h2, h3, h4, h5, h6, h7, h8, -⟩ := h
  obtain ⟨htoken, hwaiters, -, hflight, -, hdrs, hdr, -, hrx, hfatal, ⟨f, hf, hk⟩, -⟩ := hq
  refine State.linkInv_of_modify hf (hwaiters ▸ h1) (hwaiters ▸ h2) ?_ ?_ ?_ ?_ ?_ ?_ ?_ ?_
  · rwa [hdr, htoken]
  · rwa [hrx, htoken]
  · rwa [hdr, hrx]
  · rwa [hdr, hdrs]
  · rwa [hflight, hdrs]
  · rwa [hrx]
  · intro q d _ hd
    have := hclient hd
    grind
  · intro d hd
    have := hclient hd
    obtain ⟨_, _, _, _, _, _⟩ := hk d hd
    grind

/-- A request for the token (43_link_manager.md R190 step 1, 47_exchange.md R315). -/
theorem State.LinkInv.ask (h : s.LinkInv) (hc : s.clients[r]? = some c) (htoken : s.token ≠ .held r)
    (hdr : s.drOwner ≠ some r) (hrx : s.rx.owner ≠ some r)
    {op : Option ExOp}
    (hreq : op = some .registerQuery ∨ op = some .registerWrite → c.reqbuf.length ≤ 255) :
    State.LinkInv { s with
      waiters := waitersInsert r s.waiters
      clients := s.clients.modify r fun c => { c with exOp := op } } := by
  have hclient := @h.client
  have hlt := (List.getElem?_eq_some_iff.mp hc).1
  obtain ⟨h1, h2, h3, h4, h5, h6, h7, h8, -⟩ := h
  refine State.linkInv_of_modify rfl (waitersInsert_rising h1) (fun q hq => ?_) h3 h4 h5 h6 h7 h8 ?_ ?_
  · obtain rfl | hq := (mem_waitersInsert q r _).mp hq
    · exact hlt
    · exact h2 q hq
  · intro q d _ hd
    have := hclient hd
    have := mem_waitersInsert q r s.waiters
    grind
  · intro d hd
    have := hclient hd
    have := mem_waitersInsert r r s.waiters
    grind

/-- The holder gives the token back with nothing of its own running (43_link_manager.md R191). -/
theorem State.LinkInv.release (h : s.LinkInv) (hc : s.clients[r]? = some c) (hop : c.exOp = none)
    (htoken : s.token = .held r) (hdr : s.drOwner ≠ some r) (hrx : s.rx.owner ≠ some r) :
    State.LinkInv { s with token := .free } := by
  have hclient := @h.client
  obtain ⟨h1, h2, h3, h4, h5, h6, h7, h8, -⟩ := h
  have hdrn := State.owner_eq_none (fun q hq => (h3 q hq).1) htoken hdr
  have hrxn := State.owner_eq_none (fun q hq => (h4 q hq).1) htoken hrx
  refine ⟨h1, h2, by simp [hdrn], by simp [hrxn], h5, h6, h7, h8, fun q _ d hd => ?_⟩
  have := hclient hd
  have := hclient hc
  grind

/-- The end of a command of the holder that drains no longer, its read ended (47_exchange.md R317). -/
theorem State.LinkInv.endCommand (h : s.LinkInv) (htoken : s.token = .held r)
    (hdr : s.drOwner = none) {rx : RxEngine} (howner : rx.owner = none) (hstate : rx.state = .idle)
    (res : Result) : (State.endCommand r res { s with rx := rx }).LinkInv := by
  have hclient := @h.client
  obtain ⟨h1, h2, h3, h4, h5, h6, h7, h8, -⟩ := h
  refine State.linkInv_of_modify (r := r) (f := Client.rest) rfl h1 h2 ?_ ?_ (.inl hdr) h6 h7
    (by simp [howner, hstate]) ?_ ?_
  · simp [hdr]
  · simp [howner]
  · intro q d _ hd
    have := hclient hd
    simp only [State.endCommand_token, State.endCommand_waiters, State.endCommand_rx,
      State.endCommand_drOwner, State.endCommand_fatal, ClientInv]
    grind
  · intro d hd
    have := hclient hd
    simp only [State.endCommand_token, State.endCommand_waiters, State.endCommand_rx,
      State.endCommand_drOwner, State.endCommand_fatal, ClientInv, Client.rest]
    grind

/-- The swap that starts a drain of the holder (43_link_manager.md R194). -/
theorem State.LinkInv.startDrain (h : s.LinkInv) (hc : s.clients[r]? = some c)
    (htoken : s.token = .held r) (hrx : s.rx.owner = none)
    (hop : c.exOp ≠ none → c.exs = .token ∧ c.written = true) : (s.startDrain r).LinkInv := by
  have hclient := @h.client
  have hlt := (List.getElem?_eq_some_iff.mp hc).1
  obtain ⟨h1, h2, h3, h4, h5, h6, h7, h8, -⟩ := h
  refine ⟨h1, h2, by simp [htoken, hlt], h4, .inr hrx, by simp, by simp, h8, fun q _ d hd => ?_⟩
  have hd : s.clients[q]? = some d := hd
  have := hclient hd
  simp only [State.startDrain_token, State.startDrain_waiters, State.startDrain_rx,
    State.startDrain_drOwner, State.startDrain_fatal, ClientInv]
  grind

/-- The acceptance of a read of the holder, bare or as an exchange goes to EX_AWAIT
(43_link_manager.md R200, 47_exchange.md R316). -/
theorem State.LinkInv.acceptRead (h : s.LinkInv) (hc : s.clients[r]? = some c)
    (htoken : s.token = .held r) (hdr : s.drOwner = none) {g : Client → Client}
    (hg : g c = c ∧ c.exOp = none ∨ g c = { c with exs := .await } ∧ c.exs = .token ∧
      (c.exOp = some .registerQuery ∨ c.exOp = some .streamPoll))
    (filter : Option Id7) : ((s.modClient r g).acceptRead r filter).LinkInv := by
  have hclient := @h.client
  have hlt := (List.getElem?_eq_some_iff.mp hc).1
  obtain ⟨h1, h2, h3, h4, h5, h6, h7, h8, -⟩ := h
  refine State.linkInv_of_modify (r := r) rfl h1 h2 h3 (by simp [htoken, hlt]) (.inl hdr) h6 h7
    (by simp) ?_ ?_
  · intro q d _ hd
    have := hclient hd
    simp only [State.acceptRead_token, State.acceptRead_waiters, State.acceptRead_rx,
      State.acceptRead_drOwner, State.acceptRead_fatal, State.modClient_token, State.modClient_waiters,
      State.modClient_drOwner, State.modClient_fatal, ClientInv]
    grind
  · intro d hd
    obtain rfl := Option.some.inj (hc.symm.trans hd)
    have := hclient hd
    simp only [State.acceptRead_token, State.acceptRead_waiters, State.acceptRead_rx,
      State.acceptRead_drOwner, State.acceptRead_fatal, State.modClient_token, State.modClient_waiters,
      State.modClient_drOwner, State.modClient_fatal, ClientInv]
    obtain ⟨hg, hop⟩ | ⟨hg, hx, hop⟩ := hg
    · simp only [hg]
      grind
    · simp only [hg]
      grind

/-- The grant (43_link_manager.md R190 step 2, 47_exchange.md R316). -/
theorem State.LinkInv.grant (h : s.LinkInv) (r : Nat) : (s.grant r).LinkInv := by
  have hclient := @h.client
  obtain he | ⟨-, hfree, hw, hgrant⟩ := s.grant_cases r
  · rwa [he]
  have herase := fun q => mem_waitersErase q r s.waiters
  obtain ⟨h1, h2, h3, h4, h5, h6, h7, h8, -⟩ := h
  have hlt := h2 r hw
  have hdrn := State.owner_eq_none_of_free h3 hfree
  have hrxn := State.owner_eq_none_of_free h4 hfree
  obtain ⟨hop, he⟩ | ⟨hop, he⟩ := hgrant
  · rw [he]
    refine ⟨waitersErase_rising h1, fun q hq => h2 q ((herase q).mp hq).2, by simp [hdrn], by simp [hrxn], h5, h6, h7,
      h8, fun q _ d hd => ?_⟩
    have := hclient hd
    have := herase q
    have hd' : q = r → d.exOp = none := by
      rintro rfl
      have hd : s.clients[q]? = some d := hd
      rw [hd] at hop
      exact hop
    grind
  · rw [he]
    refine State.linkInv_of_modify (r := r) rfl (waitersErase_rising h1)
      (fun q hq => h2 q ((herase q).mp hq).2) (by simp [hdrn]) (by simp [hrxn]) h5 h6 h7 h8 ?_ ?_
    · intro q d _ hd
      have := hclient hd
      have := herase q
      grind
    · intro d hd
      have := hclient hd
      have := herase r
      have hd' : d.exOp ≠ none := by rw [hd] at hop; exact hop
      grind

/-- The TX engine's step (43_link_manager.md R195). -/
theorem State.LinkInv.txWrite (h : s.LinkInv) : s.txWrite.LinkInv := by
  obtain he | ⟨-, hdrs, he⟩ := s.txWrite_cases
  · rwa [he]
  · obtain ⟨h1, h2, h3, h4, h5, h6, h7, h8, h9⟩ := h
    rw [he]
    refine ⟨h1, h2, h3, h4, h5, ?_, by simp, h8, h9⟩
    rw [hdrs] at h6
    exact iff_of_false (by simp) fun hn => absurd (h6.mpr hn) (by simp)

/-- A drain that has been flushed leaves the engine free (43_link_manager.md R196). -/
theorem State.LinkInv.drainDone (h : s.LinkInv) (hdrs : s.drs = .flush) :
    State.LinkInv { s with drs := .idle, drOwner := none } := by
  have hclient := @h.client
  obtain ⟨h1, h2, h3, h4, h5, h6, h7, h8, -⟩ := h
  have hflight : s.txflight = [] := by
    by_contra hne
    rw [h7 hne] at hdrs
    cases hdrs
  refine ⟨h1, h2, by simp, h4, .inl rfl, by simp, by simp [hflight], h8, fun q _ d hd => ?_⟩
  have hd : s.clients[q]? = some d := hd
  have := hclient hd
  grind

/-- An exchange without a reply goes to EX_SENT (47_exchange.md R316). -/
theorem State.LinkInv.sent (h : s.LinkInv) (hc : s.clients[r]? = some c)
    (hdr : s.drOwner = none) (hx : c.exs = .token)
    (hop : c.exOp = some .registerWrite ∨ c.exOp = some .streamDrain) :
    (s.modClient r fun c => { c with exs := .sent }).LinkInv := by
  have hclient := @h.client
  obtain ⟨h1, h2, h3, h4, h5, h6, h7, h8, -⟩ := h
  refine State.linkInv_of_modify (r := r) rfl h1 h2 h3 h4 h5 h6 h7 h8 (fun q d _ hd => hclient hd) ?_
  intro d hd
  have := hclient hd
  simp only [State.modClient_token, State.modClient_waiters, State.modClient_rx,
    State.modClient_drOwner, State.modClient_fatal, ClientInv]
  grind

theorem ExOp.hasReply_iff (op : ExOp) :
    op.hasReply = true ↔ op = .registerQuery ∨ op = .streamPoll := by
  cases op <;> simp [ExOp.hasReply]

theorem ExOp.hasReply_eq_false_iff (op : ExOp) :
    op.hasReply = false ↔ op = .registerWrite ∨ op = .streamDrain := by
  cases op <;> simp [ExOp.hasReply]

/-- The completed drain of its owner (43_link_manager.md R196, R197; 47_exchange.md R316). -/
theorem State.LinkInv.txFlushed (h : s.LinkInv) : s.txFlushed.LinkInv := by
  obtain he | ⟨-, hdrs, ⟨r, c, hdr, hc, he⟩ | ⟨he, -⟩⟩ := s.txFlushed_cases
  · rwa [he]
  · have hdone := h.drainDone hdrs
    have hclient := h.client hc
    obtain ⟨-, -, -, -, -, -, -, -, -, hdrain, -⟩ := hclient
    obtain ⟨-, -, h3, h4, hone, -⟩ := h
    have htoken : s.token = .held r := (h3 r hdr).1
    have hrx : s.rx.owner = none := hone.resolve_left (by simp [hdr])
    have hidle := by
      obtain ⟨-, -, -, -, -, -, -, h8, -⟩ := hdone
      exact h8.mpr hrx
    rw [he]
    obtain ⟨-, hd⟩ | ⟨-, -, hd⟩ | ⟨op, -, hop, hreply, hd⟩ | ⟨op, -, hop, hreply, hd⟩ :=
      State.drained_cases r c { s with drs := .idle, drOwner := none }
    · rw [hd]
      exact State.LinkInv.endCommand hdone htoken rfl hrx hidle _
    · rw [hd]
      exact hdone
    · rw [hd]
      have hx := hdrain hdr (by simp [hop])
      refine State.LinkInv.acceptRead hdone hc htoken rfl (.inr ⟨rfl, hx.1, ?_⟩) _
      simpa [hop] using (ExOp.hasReply_iff op).mp hreply
    · rw [hd]
      have hx := hdrain hdr (by simp [hop])
      refine State.LinkInv.sent hdone hc rfl hx.1 ?_
      simpa [hop] using (ExOp.hasReply_eq_false_iff op).mp hreply
  · rw [he]
    exact h.drainDone hdrs

/-- What the frame uses up is in the buffers; the exchange stays where it is (47_exchange.md step 2). -/
theorem Client.afterFrame_link (op : ExOp) (c : Client) :
    (c.afterFrame op).exs = c.exs ∧ (c.afterFrame op).exOp = c.exOp ∧
      (c.afterFrame op).outcome = c.outcome ∧ (c.afterFrame op).written = true ∧
      (c.afterFrame op).reqbuf.length ≤ c.reqbuf.length := by
  cases op <;> simp [Client.afterFrame]

/-- The exchange's frame goes behind TXBUF and what it carries is used up (47_exchange.md step 2). -/
theorem State.LinkInv.writeExchangeFrame (h : s.LinkInv) (op : ExOp) (r : Nat) (c : Client) :
    (s.writeExchangeFrame op r c).LinkInv := by
  unfold State.writeExchangeFrame
  split
  · exact h.quiet (s.quiet_raise _ r)
  · rename_i bs s' hb
    have hq : s.Quiet r s' := by
      unfold State.buildFrame at hb
      split at hb
      · cases hb
      · cases hb
        exact s.quiet_crcAcc r _
    have h' := h.quiet hq
    have hclient := @h'.client
    obtain ⟨h1, h2, h3, h4, h5, h6, h7, h8, -⟩ := h'
    refine State.linkInv_of_modify (r := r) rfl h1 h2 h3 h4 h5 h6 h7 h8
      (fun q d _ hd => hclient hd) ?_
    intro d hd
    have := hclient hd
    simp only [State.modClient_token, State.modClient_waiters, State.modClient_rx,
      State.modClient_drOwner, State.modClient_fatal, ClientInv]
    obtain ⟨_, _, _, _, _⟩ := d.afterFrame_link op
    grind

/-- With the exchange in EX_SENT or EX_DECODED its requester holds the token and no engine runs. -/
theorem State.LinkInv.at_rest (h : s.LinkInv) (hc : s.clients[r]? = some c)
    (hx : c.exs = .sent ∨ c.exs = .decoded) :
    s.token = .held r ∧ s.drOwner = none ∧ s.rx.owner = none ∧ s.rx.state = .idle := by
  have hself := h.client hc
  obtain ⟨-, -, h3, h4, -, -, -, h8, -⟩ := h
  have htoken : s.token = .held r := by grind
  have hrx := State.owner_eq_none (fun q hq => (h4 q hq).1) htoken (by grind)
  exact ⟨htoken, State.owner_eq_none (fun q hq => (h3 q hq).1) htoken (by grind), hrx, h8.mpr hrx⟩

/-- The exchange's own step (47_exchange.md R316). -/
theorem State.LinkInv.exchangeStep (h : s.LinkInv) (r : Nat) : (s.exchangeStep r).LinkInv := by
  obtain he | ⟨-, c, hc, hstep⟩ := s.exchangeStep_cases r
  · rwa [he]
  have ended (hx : c.exs = .sent ∨ c.exs = .decoded) (res : Result) :
      (s.endCommand r res).LinkInv := by
    obtain ⟨htoken, hdr, hrx, hidle⟩ := h.at_rest hc hx
    exact h.endCommand htoken hdr hrx hidle res
  obtain ⟨op, hx, -, htoken, hw, -, he⟩ | ⟨op, -, -, -, -, he⟩ | ⟨hx, -, he⟩ | ⟨op, res, hx, -, -, he⟩ :=
    hstep
  · obtain ⟨-, -, -, -, hrx, -⟩ := h.client hc
    rw [he]
    exact h.startDrain hc htoken (hrx hx) fun _ => ⟨hx, hw⟩
  · rw [he]
    exact h.writeExchangeFrame op r c
  · rw [he]
    exact ended (.inl hx) _
  · rw [he]
    exact ended (.inr hx) _

/-- A read that goes on keeps its owner (43_link_manager.md R201). -/
theorem State.LinkInv.reads (h : s.LinkInv) (hstate : s.rx.state ≠ .idle) (hr : s.Reads t) :
    t.LinkInv := by
  obtain ⟨heq, howner, hst, -⟩ := hr
  have hclient := @h.client
  obtain ⟨h1, h2, h3, h4, h5, h6, h7, h8, -⟩ := h
  rw [heq]
  refine ⟨h1, h2, h3, ?_, ?_, h6, h7, ?_, fun q _ d hd => ?_⟩
  · simpa only [howner] using h4
  · simpa only [howner] using h5
  · simp only [howner]
    exact iff_of_false hst fun hn => hstate (h8.mpr hn)
  · have hd : s.clients[q]? = some d := hd
    simpa only [ClientInv, howner] using hclient hd

/-- A stray frame: the read is issued again in the same step (47_exchange.md R321). -/
theorem State.LinkInv.readAgain (h : s.LinkInv) (howner : s.rx.owner = some r)
    (filter : Option Id7) :
    (State.acceptRead r filter { s with rx := { s.rx with state := .idle, owner := none } }).LinkInv := by
  have hclient := @h.client
  obtain ⟨h1, h2, h3, h4, h5, h6, h7, h8, -⟩ := h
  refine ⟨h1, h2, h3, ?_, ?_, h6, h7, by simp, fun q _ d hd => ?_⟩
  · simpa [howner] using h4
  · simpa [howner] using h5
  · have hd : s.clients[q]? = some d := hd
    simpa [ClientInv, howner] using hclient hd

/-- The awaited frame has been decoded: the exchange has its result, or the block is fatal
(47_exchange.md R316, R325). -/
theorem State.LinkInv.decoded (h : s.LinkInv) (hc : s.clients[r]? = some c)
    (howner : s.rx.owner = some r) (hop : c.exOp ≠ none) {u : State}
    (hq : State.Quiet r
      ({ s with rx := { s.rx with state := .idle, owner := none } }.modClient r
        fun c => { c with exs := .decoded }) u)
    (ht : t = u ∧ u.fatal = true ∨ ∃ res, t = u.conclude r res) : t.LinkInv := by
  have hclient := @h.client
  have hself := hclient hc
  obtain ⟨h1, h2, h3, h4, h5, h6, h7, h8, -⟩ := h
  have hdr : s.drOwner = none := h5.resolve_right (by simp [howner])
  obtain ⟨htoken, hwaiters, -, hflight, -, hdrs, hdrO, -, hrx, -, ⟨f, hf, hk⟩, -⟩ := hq
  simp only [State.modClient_token, State.modClient_waiters, State.modClient_txflight,
    State.modClient_drs, State.modClient_drOwner, State.modClient_rx, State.modClient_clients] at *
  rw [List.modify_modify_eq] at hf
  have key (t : State) (g : Client → Client) (hcs : t.clients = s.clients.modify r g)
      (htok : t.token = u.token) (hw : t.waiters = u.waiters) (hfl : t.txflight = u.txflight)
      (hds : t.drs = u.drs) (hdo : t.drOwner = u.drOwner) (hr : t.rx = u.rx)
      (hg : ∀ d, s.clients[r]? = some d → (g d).exs = .decoded ∧ (g d).exOp = d.exOp ∧
        (g d).reqbuf = d.reqbuf ∧ (t.fatal = true ∧ (g d).outcome = d.outcome ∨ (g d).outcome ≠ none)) :
      t.LinkInv := by
    refine State.linkInv_of_modify hcs (by rw [hw, hwaiters]; exact h1)
      (by rw [hw, hwaiters]; exact h2) (by simp [hdo, hdrO, hdr]) (by simp [hr, hrx])
      (.inl (by rw [hdo, hdrO, hdr])) (by rw [hds, hdrs, hdo, hdrO]; exact h6)
      (by rw [hfl, hflight, hds, hdrs]; exact h7) (by simp [hr, hrx]) ?_ ?_
    · intro q d hne hd
      have := hclient hd
      simp only [ClientInv, htok, htoken, hw, hwaiters, hdo, hdrO, hr, hrx]
      grind
    · intro d hd
      have := hclient hd
      have := hg d hd
      simp only [ClientInv, htok, htoken, hw, hwaiters, hdo, hdrO, hr, hrx]
      grind
  have hfd (d : Client) (hd : s.clients[r]? = some d) :
      Client.KeepsLink { d with exs := .decoded } (f { d with exs := .decoded }) :=
    hk _ (by rw [List.getElem?_modify_eq, hd]; rfl)
  have hopd (d : Client) (hd : s.clients[r]? = some d) : d.exOp ≠ none :=
    Option.some.inj (hc.symm.trans hd) ▸ hop
  obtain ⟨rfl, hfatal⟩ | ⟨res, rfl⟩ := ht
  · refine key t _ hf rfl rfl rfl rfl rfl rfl fun d hd => ?_
    obtain ⟨k1, k2, -, -, k5, k6⟩ := hfd d hd
    exact ⟨k1, k2, k6 (hopd d hd), .inl ⟨hfatal, k5⟩⟩
  · refine key _ (fun d => { f { d with exs := .decoded } with outcome := some res }) ?_ rfl rfl rfl rfl
      rfl rfl fun d hd => ?_
    · rw [State.conclude_clients, hf, List.modify_modify_eq]
      rfl
    · obtain ⟨k1, k2, -, -, -, k6⟩ := hfd d hd
      exact ⟨k1, k2, k6 (hopd d hd), .inr (by simp)⟩

/-- A bare read that ends keeps the token (43_link_manager.md R206). -/
theorem State.LinkInv.readDone (h : s.LinkInv) (hc : s.clients[r]? = some c)
    (howner : s.rx.owner = some r) (hop : c.exOp = none) :
    State.LinkInv { s with rx := { s.rx with state := .idle, owner := none } } := by
  have hclient := @h.client
  obtain ⟨h1, h2, h3, h4, h5, h6, h7, h8, -⟩ := h
  refine ⟨h1, h2, h3, by simp, .inr rfl, h6, h7, by simp, fun q _ d hd => ?_⟩
  have hd : s.clients[q]? = some d := hd
  have := hclient hd
  have := hclient hc
  grind

/-- The end of a read, whatever ends it (43_link_manager.md R203, R206, R210; 47_exchange.md R321). -/
theorem State.LinkInv.endRead (h : s.LinkInv) (e : ReadEnd) : (s.endRead e).LinkInv := by
  have ⟨_, _, _, h4, h5, _, _, h8, _⟩ := h
  obtain ⟨he, hnone⟩ | ⟨r, c, howner, hc, hop, he⟩ | ⟨r, c, op, howner, hc, hop, he⟩ :=
    s.endRead_cases e
  · have howner : s.rx.owner = none := Option.eq_none_iff_forall_not_mem.mpr fun r hr =>
      absurd (List.getElem?_eq_none_iff.mp (hnone r hr)) (by have := (h4 r hr).2; omega)
    have hsame : { s.rx with state := .idle, owner := none } = s.rx := by
      rw [← howner, ← h8.mpr howner]
    rw [he, hsame]
    exact h
  · have hdr : s.drOwner = none := h5.resolve_right (by simp [howner])
    rw [he]
    cases e with
    | cancelled => exact h.endCommand (h4 r howner).1 hdr rfl rfl _
    | frame | noData | resyncTimeout | timeout => exact h.readDone hc howner hop
  · have hdr : s.drOwner = none := h5.resolve_right (by simp [howner])
    rw [he]
    cases e with
    | frame f =>
      have hreply : op.hasReply = true := by
        rw [ExOp.hasReply_iff]
        have := h.client hc
        grind
      obtain ⟨u, hq, ht⟩ := State.decodeExchange_cases hreply r c f
        { s with rx := { s.rx with state := .idle, owner := none } }
      refine h.decoded hc howner (by simp [hop]) hq ?_
      exact ht.imp_left fun ⟨ht, hfatal⟩ => ⟨ht, hfatal⟩
    | noData => exact h.readAgain howner _
    | resyncTimeout | timeout | cancelled => exact h.endCommand (h4 r howner).1 hdr rfl rfl _

theorem State.LinkInv.rxByte (h : s.LinkInv) : s.rxByte.LinkInv := by
  obtain he | ⟨-, hstate, hr | ⟨u, e, hr, -, he⟩⟩ := s.rxByte_takesByte
  · rwa [he]
  · exact h.reads hstate hr
  · rw [he]
    exact (h.reads hstate hr).endRead e

theorem State.LinkInv.deliver (h : s.LinkInv) (bs : Bytes) : (s.deliver bs).LinkInv := by
  induction bs generalizing s with
  | nil => exact h
  | cons b bs ih => exact ih (State.LinkInv.rxByte (s := s.rxArrive b) h)

theorem State.LinkInv.timeout (h : s.LinkInv) (r : Nat) : (s.timeout r).LinkInv := by
  unfold State.timeout
  split_ifs
  · exact h
  · exact h.endRead _
  · exact h

/-- A wait for the token is given up (60_exceptions.md R353). -/
theorem State.LinkInv.leave (h : s.LinkInv) (hw : r ∈ s.waiters) :
    (State.modClient r Client.rest { s with waiters := waitersErase r s.waiters }).LinkInv := by
  have hclient := @h.client
  obtain ⟨h1, h2, h3, h4, h5, h6, h7, h8, -⟩ := h
  have herase := fun q => mem_waitersErase q r s.waiters
  refine State.linkInv_of_modify (r := r) rfl (waitersErase_rising h1)
    (fun q hq => h2 q ((herase q).mp hq).2) h3 h4 h5 h6 h7 h8 ?_ ?_
  · intro q d _ hd
    have := hclient hd
    have := herase q
    simp only [ClientInv, State.modClient_token, State.modClient_waiters, State.modClient_rx,
      State.modClient_drOwner, State.modClient_fatal]
    grind
  · intro d hd
    have := hclient hd
    have := herase r
    simp only [ClientInv, State.modClient_token, State.modClient_waiters, State.modClient_rx,
      State.modClient_drOwner, State.modClient_fatal, Client.rest]
    grind

/-- The mark of a cancel that takes effect later is no link register (log 11). -/
theorem State.LinkInv.mark (h : s.LinkInv) (r : Nat) :
    (s.modClient r fun c => { c with cancelled := true }).LinkInv := by
  have hclient := @h.client
  obtain ⟨h1, h2, h3, h4, h5, h6, h7, h8, -⟩ := h
  exact State.linkInv_of_modify (r := r) rfl h1 h2 h3 h4 h5 h6 h7 h8 (fun q d _ hd => hclient hd)
    fun d hd => hclient (r := r) (c := d) hd

theorem Client.takeBack_keepsLink (c : Client) : c.KeepsLink c.takeBack := by
  unfold Client.takeBack
  split <;> exact ⟨rfl, rfl, rfl, rfl, rfl, fun _ => rfl⟩

theorem State.LinkInv.cancel (h : s.LinkInv) (r : Nat) : (s.cancel r).LinkInv := by
  unfold State.cancel
  split
  · exact h
  · split
    · exact h
    · rename_i c hc
      split_ifs with hw hdr hrd hx hx
      · exact h.leave hw
      · exact h.mark r
      · exact h.endRead _
      · exact h.mark r
      · obtain ⟨htoken, hdr, hrx, hidle⟩ := h.at_rest hc hx
        have hq : s.Quiet r (s.modClient r Client.takeBack) :=
          State.quiet_modClient fun d _ => d.takeBack_keepsLink
        exact (h.quiet hq).endCommand htoken hdr hrx hidle _
      · exact h

/-- Whatever an accepted command does (43_link_manager.md R190 to R200, 47_exchange.md R315). -/
theorem State.LinkInv.commandDoes {i : Instr} (h : s.LinkInv) (hr : s.issuer = r) (hcan : s.CanIssue)
    (hc : s.clients[r]? = some c) (hdoes : s.CommandDoes i r c t) : t.LinkInv := by
  subst hr
  obtain ⟨-, -, -, hdr, hrx, hop⟩ := hcan
  have hop := hop c hc
  have ⟨_, _, h3, h4, _⟩ := h
  cases hdoes with
  | quiet hq => exact h.quiet hq
  | ask op _ htoken hreq => exact h.ask hc htoken hdr hrx hreq
  | release _ htoken => exact h.release hc hop htoken hdr hrx
  | write data => exact h
  | drain _ htoken =>
    have hrxn := State.owner_eq_none (fun q hq => (h4 q hq).1) htoken hrx
    exact h.startDrain hc htoken hrxn fun hne => absurd hop hne
  | read filter _ htoken =>
    have hdrn := State.owner_eq_none (fun q hq => (h3 q hq).1) htoken hdr
    have hread := h.acceptRead hc htoken hdrn (g := id) (.inl ⟨rfl, hop⟩) filter
    rwa [show s.modClient s.issuer id = s by simp [State.modClient]] at hread

/-- Right after reset nobody waits, holds, drains or reads (70_reset_and_hazards.md R381). -/
theorem State.initial_linkInv (sourceId : Id7) (crcEnforce : Bool) (resyncWindow : Nat)
    (straps : List (Id7 × U32)) :
    (State.initial sourceId crcEnforce resyncWindow straps).LinkInv := by
  refine ⟨.nil, by simp [State.initial], by simp [State.initial], by simp [State.initial, RxEngine.fresh],
    .inl rfl, by simp [State.initial], by simp [State.initial], by simp [State.initial, RxEngine.fresh],
    fun q _ d hd => ?_⟩
  obtain ⟨p, -, rfl⟩ := List.mem_map.mp (List.mem_of_getElem? hd)
  simp [ClientInv, Client.fresh, State.initial]

theorem State.resetEvent_linkInv (s : State) : s.resetEvent.LinkInv :=
  State.initial_linkInv s.sourceId s.crcEnforce s.resyncWindow
    (s.clients.map fun c : Client => (c.destId, c.channel))

/-! ### Every step -/

/-- Whatever agent takes its step, the link invariant stays (00_scope.md R16). -/
theorem State.LinkInv.act (h : s.LinkInv) {st : Stimulus} (ht : s.act st = .next t) : t.LinkInv := by
  have next {u : State} (hu : u.LinkInv) (he : Host.Outcome.next u = (.next t : Out)) : t.LinkInv :=
    Host.Outcome.next.inj he ▸ hu
  cases st with
  | command r bs =>
    have hissuer := h.quiet (s.quiet_issuer r r)
    obtain rfl | ⟨i, c, -, hc, hcan, hdoes⟩ := State.runCommand_cases ht
    · exact hissuer.quiet (State.quiet_ret r _ _)
    · exact State.LinkInv.commandDoes hissuer rfl hcan hc hdoes
  | subframe r bs => exact h.quiet (State.runSubframe_quiet ht)
  | frame bs =>
    simp only [State.act, State.runFrame] at ht
    split at ht
    · rename_i i hd
      obtain ⟨src, dst, payload, crc, -, rfl, -⟩ := decodeFrame_eq_ok hd
      exact next (h.deliver _) ht
    · exact next (h.deliver _) ht
  | grant r => exact next (h.grant r) ht
  | exchange r => exact next (h.exchangeStep r) ht
  | txWrite => exact next h.txWrite ht
  | rxByte => exact next h.rxByte ht
  | rxArrive b => exact next (u := s.rxArrive b) h ht
  | txFlushed => exact next h.txFlushed ht
  | timeout r => exact next (h.timeout r) ht
  | cancel r => exact next (h.cancel r) ht
  | reset => exact next s.resetEvent_linkInv ht

end Keeps

/-- The step of the machine is a stimulus taken by its agent. -/
theorem step_eq_act (s : State) : ∃ inputs tick st,
    step s = State.act st { s with inputs := inputs, tick := tick } := by
  unfold step
  split
  · exact ⟨_, s.tick, _, rfl⟩
  · exact ⟨s.inputs, _, _, rfl⟩

/-- Settles O58: the scheduled stimulus is no link register, and whatever agent it names keeps the
invariant. -/
theorem linkInvariantIsKept : Obligations.LinkInvariantIsKept := by
  unfold Obligations.LinkInvariantIsKept
  intro s t h ht
  obtain ⟨inputs, tick, st, hst⟩ := step_eq_act s
  exact State.LinkInv.act (s := { s with inputs := inputs, tick := tick }) h (hst ▸ ht)

end Sys2Proof.Machine
end

section
/-! What every step leaves of the transmit bytes, of RXQ and of the other requesters: transmit order
(20_memory.md R74), receive order (R75) and the separation of the requesters (60_exceptions.md R363). -/

namespace Sys2Proof.Machine

open Sys2Proof

/-! ### The transmit bytes and RXQ -/

/-- TXBUF, TXFLIGHT and WIRE hold what they held. -/
structure State.SameTx (s t : State) : Prop where
  txbuf : t.txbuf = s.txbuf
  txflight : t.txflight = s.txflight
  wire : t.wire = s.wire

theorem State.SameTx.refl (s : State) : s.SameTx s := ⟨rfl, rfl, rfl⟩

theorem State.SameTx.trans {s t u : State} (h : s.SameTx t) (k : t.SameTx u) : s.SameTx u :=
  ⟨k.txbuf.trans h.txbuf, k.txflight.trans h.txflight, k.wire.trans h.wire⟩

theorem State.Quiet.sameTx {r : Nat} {s t : State} (h : s.Quiet r t) : s.SameTx t :=
  ⟨h.txbuf, h.txflight, h.wire⟩

theorem State.Reads.sameTx {s u : State} (h : s.Reads u) : s.SameTx u := by
  rw [h.eq]
  exact ⟨rfl, rfl, rfl⟩

/-- The decode of a reply reaches neither the transmit side nor RXQ. -/
theorem State.decodeExchange_queues (op : ExOp) (r : Nat) (c : Client) (f : Frame) (s : State) :
    s.SameTx (s.decodeExchange op r c f) ∧ (s.decodeExchange op r c f).rxq = s.rxq := by
  cases hreply : op.hasReply with
  | true =>
    obtain ⟨u, hq, ⟨he, -⟩ | ⟨res, he⟩⟩ := State.decodeExchange_cases hreply r c f s
    · exact he ▸ ⟨⟨hq.txbuf, hq.txflight, hq.wire⟩, hq.rxq⟩
    · exact he ▸ ⟨⟨hq.txbuf, hq.txflight, hq.wire⟩, hq.rxq⟩
  | false =>
    cases op with
    | registerWrite | streamDrain => exact ⟨⟨rfl, rfl, rfl⟩, rfl⟩
    | registerQuery | streamPoll => cases hreply

/-- The end of a read reaches neither the transmit side nor RXQ. -/
theorem State.endRead_queues (e : ReadEnd) (s : State) :
    s.SameTx (s.endRead e) ∧ (s.endRead e).rxq = s.rxq := by
  obtain ⟨he, -⟩ | ⟨r, c, -, -, -, he⟩ | ⟨r, c, op, -, -, -, he⟩ := s.endRead_cases e
  · exact he ▸ ⟨⟨rfl, rfl, rfl⟩, rfl⟩
  · rw [he]
    cases e <;> exact ⟨⟨rfl, rfl, rfl⟩, rfl⟩
  · rw [he]
    cases e with
    | frame f =>
      obtain ⟨htx, hrxq⟩ := State.decodeExchange_queues op r c f
        { s with rx := { s.rx with state := .idle, owner := none } }
      exact ⟨⟨htx.txbuf, htx.txflight, htx.wire⟩, hrxq⟩
    | noData | resyncTimeout | timeout | cancelled => exact ⟨⟨rfl, rfl, rfl⟩, rfl⟩

theorem State.timeout_queues (r : Nat) (s : State) :
    s.SameTx (s.timeout r) ∧ (s.timeout r).rxq = s.rxq := by
  unfold State.timeout
  split_ifs
  · exact ⟨.refl s, rfl⟩
  · exact s.endRead_queues _
  · exact ⟨.refl s, rfl⟩

theorem State.cancel_queues (r : Nat) (s : State) :
    s.SameTx (s.cancel r) ∧ (s.cancel r).rxq = s.rxq := by
  unfold State.cancel
  split
  · exact ⟨.refl s, rfl⟩
  · split
    · exact ⟨.refl s, rfl⟩
    · split_ifs
      case pos => exact ⟨⟨rfl, rfl, rfl⟩, rfl⟩
      case pos => exact ⟨⟨rfl, rfl, rfl⟩, rfl⟩
      case pos => exact s.endRead_queues _
      case pos => exact ⟨⟨rfl, rfl, rfl⟩, rfl⟩
      case pos => exact ⟨⟨rfl, rfl, rfl⟩, rfl⟩
      case neg => exact ⟨.refl s, rfl⟩

theorem State.grant_queues (r : Nat) (s : State) : s.SameTx (s.grant r) ∧ (s.grant r).rxq = s.rxq := by
  obtain he | ⟨-, -, -, ⟨-, he⟩ | ⟨-, he⟩⟩ := s.grant_cases r <;> rw [he] <;> exact ⟨⟨rfl, rfl, rfl⟩, rfl⟩

theorem State.txFlushed_queues (s : State) : s.SameTx s.txFlushed ∧ s.txFlushed.rxq = s.rxq := by
  obtain he | ⟨-, -, ⟨r, c, -, -, he⟩ | ⟨he, -⟩⟩ := s.txFlushed_cases
  · rw [he]
    exact ⟨.refl s, rfl⟩
  · rw [he]
    obtain ⟨-, hd⟩ | ⟨-, -, hd⟩ | ⟨_, -, -, -, hd⟩ | ⟨_, -, -, -, hd⟩ :=
      State.drained_cases r c { s with drs := .idle, drOwner := none } <;>
    exact hd ▸ ⟨⟨rfl, rfl, rfl⟩, rfl⟩
  · rw [he]
    exact ⟨⟨rfl, rfl, rfl⟩, rfl⟩

theorem State.rxByte_sameTx (s : State) : s.SameTx s.rxByte := by
  obtain he | ⟨-, -, hr | ⟨u, e, hr, -, he⟩⟩ := s.rxByte_takesByte
  · exact he.symm ▸ .refl s
  · exact hr.sameTx
  · exact he ▸ hr.sameTx.trans (u.endRead_queues e).1

theorem State.deliver_sameTx (bs : Bytes) (s : State) : s.SameTx (s.deliver bs) := by
  induction bs generalizing s with
  | nil => exact .refl s
  | cons b bs ih =>
    have harrive : s.SameTx (s.rxArrive b) := ⟨rfl, rfl, rfl⟩
    exact (harrive.trans (State.rxByte_sameTx _)).trans (ih _)

/-- A stimulus `frame` delivers the bytes of the frame it holds, or all its bytes (log 7). -/
theorem State.runFrame_eq (bs : Bytes) (s : State) :
    ∃ arrived rest, bs = arrived ++ rest ∧
      (rest = [] ∨ ∃ i, decodeFrame bs = .ok i ∧ arrived = encode i) ∧
      s.runFrame bs = .next (s.deliver arrived) := by
  unfold State.runFrame
  cases hd : decodeFrame bs with
  | error e => exact ⟨bs, [], (List.append_nil bs).symm, .inl rfl, rfl⟩
  | ok i =>
    obtain ⟨src, dst, payload, crc, rest, rfl, -, hbs⟩ := decodeFrame_eq_ok hd
    exact ⟨_, rest, hbs, .inr ⟨_, rfl, rfl⟩, rfl⟩

/-! ### The exchange's own step, case by case (47_exchange.md R316) -/

section ExchangeStep

variable {s : State} {r : Nat} {c : Client} {op : ExOp}

/-- FRAME_ENC and LM_WRITE of the exchange, for a payload a frame can carry. -/
theorem State.writeExchangeFrame_of_le (hl : (exchangePayload op c).length ≤ 255) :
    s.writeExchangeFrame op r c =
      { s with
        txbuf := s.txbuf ++ sentFrame op.rr s.sourceId c.destId (exchangePayload op c)
        crcAcc := frameCrc (srcByte op.rr s.sourceId) (dstByte c.destId) (exchangePayload op c)
        clients := s.clients.modify r (Client.afterFrame op) } := by
  have hbuild : s.buildFrame s.sourceId op.rr c.destId (exchangePayload op c) =
      some (frameBytes s.sourceId op.rr c.destId (exchangePayload op c),
        { s with crcAcc := crc16 (frameBody s.sourceId op.rr c.destId (exchangePayload op c)) }) :=
    if_neg (Nat.not_lt.mpr hl)
  rw [State.writeExchangeFrame, hbuild]
  rfl

theorem State.writeExchangeFrame_of_gt (hl : 255 < (exchangePayload op c).length) :
    s.writeExchangeFrame op r c = s.raise .payloadTooLong r := by
  have hbuild : s.buildFrame s.sourceId op.rr c.destId (exchangePayload op c) = none := if_pos hl
  rw [State.writeExchangeFrame, hbuild]

variable (hfatal : s.fatal = false) (hc : s.clients[r]? = some c)
include hfatal hc

theorem State.exchangeStep_of_unwritten (hx : c.exs = .token) (hop : c.exOp = some op)
    (htoken : s.token = .held r) (hw : c.written = false) :
    s.exchangeStep r = s.writeExchangeFrame op r c := by
  simp [State.exchangeStep, hfatal, hc, hx, hop, htoken, hw]

theorem State.exchangeStep_of_written (hx : c.exs = .token) (hop : c.exOp = some op)
    (htoken : s.token = .held r) (hw : c.written = true) (hdrs : s.drs = .idle) :
    s.exchangeStep r = s.startDrain r := by
  simp [State.exchangeStep, hfatal, hc, hx, hop, htoken, hw, hdrs]

theorem State.exchangeStep_of_sent (hx : c.exs = .sent)
    (hop : c.exOp = some .registerWrite ∨ c.exOp = some .streamDrain) :
    s.exchangeStep r = s.endCommand r .done := by
  obtain hop | hop := hop <;> simp [State.exchangeStep, hfatal, hc, hx, hop]

theorem State.exchangeStep_of_decoded {res : Result} (hx : c.exs = .decoded) (hop : c.exOp = some op)
    (hres : c.outcome = some res) : s.exchangeStep r = s.endCommand r res := by
  simp [State.exchangeStep, hfatal, hc, hx, hop, hres]

end ExchangeStep

theorem State.exchangeStep_rxq (r : Nat) (s : State) : (s.exchangeStep r).rxq = s.rxq := by
  obtain he | ⟨-, c, -, ⟨_, -, -, -, -, -, he⟩ | ⟨op, -, -, -, -, he⟩ | ⟨-, -, he⟩ | ⟨_, _, -, -, -, he⟩⟩ :=
    s.exchangeStep_cases r
  · rw [he]
  · rw [he, State.startDrain_rxq]
  · rw [he]
    obtain hl | hl := le_or_gt (exchangePayload op c).length 255
    · rw [State.writeExchangeFrame_of_le hl]
    · rw [State.writeExchangeFrame_of_gt hl, State.raise_rxq]
  · rw [he, State.endCommand_rxq]
  · rw [he, State.endCommand_rxq]

/-! ### Transmit order -/

/-- WIRE, TXFLIGHT and TXBUF laid end to end: the bytes on their way out, oldest first. -/
def State.txBytes (s : State) : Bytes := s.wire ++ s.txflight ++ s.txbuf

theorem State.SameTx.txBytes {s t : State} (h : s.SameTx t) : t.txBytes = s.txBytes := by
  rw [State.txBytes, State.txBytes, h.txbuf, h.txflight, h.wire]

/-- The swap moves no byte in the order, TXFLIGHT being empty (43_link_manager.md R194). -/
theorem State.LinkInv.startDrain_txBytes {s : State} (h : s.LinkInv) (hdrs : s.drs = .idle) (r : Nat) :
    (s.startDrain r).txBytes = s.txBytes := by
  obtain ⟨-, -, -, -, -, -, hflight, -⟩ := h
  have hnil : s.txflight = [] := by
    by_contra hne
    exact absurd ((hflight hne).symm.trans hdrs) (by simp)
  simp [State.txBytes, hnil]

theorem State.txWrite_txBytes (s : State) : s.txWrite.txBytes = s.txBytes := by
  obtain he | ⟨-, -, he⟩ := s.txWrite_cases <;> rw [he]
  simp [State.txBytes]

/-- The bytes the step `st` appends to those on their way out: an accepted LM_WRITE's operand, or the frame an
exchange writes (20_memory.md R74, 47_exchange.md R326). -/
def State.Appends (s : State) (st : Stimulus) (w : Bytes) : Prop :=
  (∃ q bs, st = .command q bs ∧ decodeCommand bs = .ok (.lmWrite w) ∧
    { s with issuer := q }.CanIssue) ∨
  (∃ q c op, st = .exchange q ∧ s.fatal = false ∧ s.clients[q]? = some c ∧ c.exs = .token ∧
    c.written = false ∧ c.exOp = some op ∧ (exchangePayload op c).length ≤ 255 ∧
    w = sentFrame op.rr s.sourceId c.destId (exchangePayload op c))

theorem State.Appends.txBytes {s t : State} {st : Stimulus} {w : Bytes} (h : s.LinkInv)
    (hw : s.Appends st w) (ht : s.act st = .next t) :
    t.txBytes = s.txBytes ++ w ∧ t.wire = s.wire := by
  obtain ⟨q, bs, rfl, hd, hcan⟩ | ⟨q, c, op, rfl, hfatal, hc, hx, hwr, hop, hl, rfl⟩ := hw
  · have he : s.act (.command q bs) = .next
        (State.answered .done { s with issuer := q, txbuf := s.txbuf ++ w }) := by
      simp only [State.act, State.runCommand, hd]
      exact exec_lmWrite hcan w
    obtain rfl := Host.Outcome.next.inj (he.symm.trans ht)
    exact ⟨(List.append_assoc _ _ _).symm, rfl⟩
  · obtain ⟨-, hheld, -⟩ := h.client hc
    have htoken := hheld (by simp [hx])
    have he : s.exchangeStep q = t := Host.Outcome.next.inj ht
    rw [State.exchangeStep_of_unwritten hfatal hc hx hop htoken hwr,
      State.writeExchangeFrame_of_le hl] at he
    obtain rfl := he
    exact ⟨(List.append_assoc _ _ _).symm, rfl⟩

/-- A step that appends nothing keeps the bytes on their way out, and WIRE unless it is the TX engine's. -/
theorem State.txBytes_of_not_appends {s t : State} {st : Stimulus} (h : s.LinkInv)
    (hst : st ≠ .reset) (hno : ∀ w, ¬ s.Appends st w) (ht : s.act st = .next t) :
    t.txBytes = s.txBytes ∧ (st ≠ .txWrite → t.wire = s.wire) := by
  have same (hu : s.SameTx t) :
      t.txBytes = s.txBytes ∧ (st ≠ .txWrite → t.wire = s.wire) :=
    ⟨hu.txBytes, fun _ => hu.wire⟩
  cases st with
  | command q bs =>
    obtain rfl | ⟨i, c, hd, hc, hcan, hdoes⟩ := State.runCommand_cases ht
    · exact same ⟨rfl, rfl, rfl⟩
    · cases hdoes with
      | quiet hq => exact same ⟨hq.txbuf, hq.txflight, hq.wire⟩
      | ask | release | read => exact same ⟨rfl, rfl, rfl⟩
      | write data hi => exact absurd (.inl ⟨q, bs, rfl, hi ▸ hd, hcan⟩) (hno data)
      | drain _ htoken =>
        obtain ⟨-, -, -, hdr, -⟩ := hcan
        exact ⟨h.startDrain_txBytes (h.drs_eq_idle htoken hdr) q, fun _ => rfl⟩
  | subframe r bs => exact same (State.runSubframe_quiet ht).sameTx
  | frame bs =>
    obtain ⟨arrived, rest, -, -, he⟩ := s.runFrame_eq bs
    exact same (Host.Outcome.next.inj (he.symm.trans ht) ▸ (s.deliver_sameTx arrived))
  | grant r => obtain rfl := Host.Outcome.next.inj ht; exact same (s.grant_queues r).1
  | exchange q =>
    obtain rfl := Host.Outcome.next.inj ht
    obtain he | ⟨hfatal, c, hc, ⟨_, -, -, -, -, hdrs, he⟩ | ⟨op, hx, hop, -, hw, he⟩ | ⟨-, -, he⟩ |
      ⟨_, _, -, -, -, he⟩⟩ := s.exchangeStep_cases q
    · exact same (he.symm ▸ .refl s)
    · exact he ▸ ⟨h.startDrain_txBytes hdrs q, fun _ => rfl⟩
    · obtain hl | hl := le_or_gt (exchangePayload op c).length 255
      · exact absurd (.inr ⟨q, c, op, rfl, hfatal, hc, hx, hw, hop, hl, rfl⟩) (hno _)
      · rw [State.writeExchangeFrame_of_gt hl] at he
        exact same (he ▸ (s.quiet_raise _ q).sameTx)
    · exact same (he.symm ▸ ⟨rfl, rfl, rfl⟩)
    · exact same (he.symm ▸ ⟨rfl, rfl, rfl⟩)
  | txWrite => exact ⟨Host.Outcome.next.inj ht ▸ s.txWrite_txBytes, fun hne => absurd rfl hne⟩
  | rxByte => exact same (Host.Outcome.next.inj ht ▸ s.rxByte_sameTx)
  | rxArrive b => exact same (Host.Outcome.next.inj ht ▸ ⟨rfl, rfl, rfl⟩)
  | txFlushed => exact same (Host.Outcome.next.inj ht ▸ s.txFlushed_queues.1)
  | timeout r => obtain rfl := Host.Outcome.next.inj ht; exact same (s.timeout_queues r).1
  | cancel r => obtain rfl := Host.Outcome.next.inj ht; exact same (s.cancel_queues r).1
  | reset => exact absurd rfl hst

/-- WIRE grows at its end only. -/
theorem State.wire_grows_of_txWrite (s : State) : ∃ w, s.txWrite.wire = s.wire ++ w := by
  obtain he | ⟨-, -, he⟩ := s.txWrite_cases <;> rw [he]
  · exact ⟨[], (List.append_nil _).symm⟩
  · exact ⟨s.txflight, rfl⟩

/-- A stimulus appends one thing only. -/
theorem State.Appends.unique {s : State} {st : Stimulus} {v w : Bytes} (hv : s.Appends st v)
    (hw : s.Appends st w) : v = w := by
  obtain ⟨q, bs, rfl, hd, -⟩ | ⟨q, c, op, rfl, -, hc, -, -, hop, -, rfl⟩ := hv
  · obtain ⟨q', bs', he, hd', -⟩ | ⟨_, _, _, he, -⟩ := hw
    · cases he
      exact Instr.lmWrite.inj (Except.ok.inj (hd.symm.trans hd'))
    · cases he
  · obtain ⟨_, _, he, -⟩ | ⟨q', c', op', he, -, hc', -, -, hop', -, rfl⟩ := hw
    · cases he
    · cases he
      obtain rfl := Option.some.inj (hc.symm.trans hc')
      obtain rfl := Option.some.inj (hop.symm.trans hop')
      rfl

/-- Settles O22: a step appends the bytes of `State.Appends`, or none, and the TX engine's step moves bytes
without changing their order. -/
theorem transmitOrder : Obligations.TransmitOrder := by
  unfold Obligations.TransmitOrder
  intro s t st h hst ht
  by_cases happ : ∃ w, s.Appends st w
  · obtain ⟨w, hw⟩ := happ
    obtain ⟨hbytes, hwire⟩ := hw.txBytes h ht
    refine ⟨⟨w, hbytes, .inr ?_, ?_, ?_⟩, [], by simp [hwire], fun _ => rfl⟩
    · exact hw.imp (fun ⟨q, bs, he, hd, _⟩ => ⟨q, bs, he, hd⟩)
        fun ⟨q, c, op, he, _, hc, _, _, hop, _, hwe⟩ => ⟨q, c, op, he, hc, hop, hwe⟩
    · exact fun q bs data he hd hcan => hw.unique (.inl ⟨q, bs, he, hd, hcan⟩)
    · exact fun q c op he hf hc hx hwr hop hl =>
        hw.unique (.inr ⟨q, c, op, he, hf, hc, hx, hwr, hop, hl, rfl⟩)
  · have hno (w : Bytes) : ¬ s.Appends st w := fun hw => happ ⟨w, hw⟩
    obtain ⟨hbytes, hwire⟩ := State.txBytes_of_not_appends h hst hno ht
    refine ⟨⟨[], hbytes.trans (List.append_nil _).symm, .inl rfl, ?_, ?_⟩, ?_⟩
    · exact fun q bs data he hd hcan => absurd (.inl ⟨q, bs, he, hd, hcan⟩) (hno data)
    · exact fun q c op he hf hc hx hwr hop hl =>
        absurd (.inr ⟨q, c, op, he, hf, hc, hx, hwr, hop, hl, rfl⟩) (hno _)
    · by_cases htx : st = .txWrite
      · subst htx
        obtain rfl := Host.Outcome.next.inj ht
        obtain ⟨w, hw⟩ := s.wire_grows_of_txWrite
        exact ⟨w, hw, fun hne => absurd rfl hne⟩
      · exact ⟨[], by simp [hwire htx], fun _ => rfl⟩

end Sys2Proof.Machine
end

section
/-! What every step leaves of RXQ and of the other requesters, and what the fatal state leaves at all: receive
order (20_memory.md R75), the separation of the requesters (60_exceptions.md R363), refusal (R347). -/

namespace Sys2Proof.Machine

open Sys2Proof

/-! ### Receive order -/

/-- The byte step takes bytes from the front of RXQ only (43_link_manager.md R201, R203). -/
theorem State.rxByte_rxq (s : State) : ∃ n, s.rxByte.rxq = s.rxq.drop n := by
  obtain he | ⟨-, -, hr | ⟨u, e, hr, -, he⟩⟩ := s.rxByte_takesByte
  · exact ⟨0, by rw [he, List.drop_zero]⟩
  · exact hr.rxq
  · obtain ⟨n, hn⟩ := hr.rxq
    exact ⟨n, by rw [he, (u.endRead_queues e).2, hn]⟩

/-- Delivered bytes join RXQ at the back and leave it at the front. -/
theorem State.deliver_rxq (bs : Bytes) (s : State) :
    ∃ taken, s.rxq ++ bs = taken ++ (s.deliver bs).rxq := by
  induction bs generalizing s with
  | nil => exact ⟨[], List.append_nil _⟩
  | cons b bs ih =>
    obtain ⟨n, hn⟩ := (s.rxArrive b).rxByte_rxq
    obtain ⟨taken, ht⟩ := ih (s.rxArrive b).rxByte
    refine ⟨(s.rxArrive b).rxq.take n ++ taken, ?_⟩
    calc s.rxq ++ b :: bs
        = (s.rxArrive b).rxq ++ bs := by simp
      _ = (s.rxArrive b).rxq.take n ++ ((s.rxArrive b).rxByte.rxq ++ bs) := by
          rw [hn, ← List.append_assoc, List.take_append_drop]
      _ = (s.rxArrive b).rxq.take n ++ taken ++ (s.deliver (b :: bs)).rxq := by
          rw [ht, List.append_assoc]
          rfl

/-- No step but an arrival, a delivery, a byte step and reset reaches RXQ. -/
theorem State.rxq_of_act {s t : State} {st : Stimulus} (harrive : ∀ b, st ≠ .rxArrive b)
    (hframe : ∀ bs, st ≠ .frame bs) (hbyte : st ≠ .rxByte) (hreset : st ≠ .reset)
    (ht : s.act st = .next t) : t.rxq = s.rxq := by
  cases st with
  | command q bs =>
    obtain rfl | ⟨i, c, -, -, -, hdoes⟩ := State.runCommand_cases ht
    · rfl
    · cases hdoes with
      | quiet hq => exact hq.rxq
      | ask | release | write | drain | read => rfl
  | subframe r bs => exact (State.runSubframe_quiet ht).rxq
  | frame bs => exact absurd rfl (hframe bs)
  | grant r => exact Host.Outcome.next.inj ht ▸ (s.grant_queues r).2
  | exchange r => exact Host.Outcome.next.inj ht ▸ s.exchangeStep_rxq r
  | txWrite =>
    obtain rfl := Host.Outcome.next.inj ht
    obtain he | ⟨-, -, he⟩ := s.txWrite_cases <;> rw [he]
  | rxByte => exact absurd rfl hbyte
  | rxArrive b => exact absurd rfl (harrive b)
  | txFlushed => exact Host.Outcome.next.inj ht ▸ s.txFlushed_queues.2
  | timeout r => exact Host.Outcome.next.inj ht ▸ (s.timeout_queues r).2
  | cancel r => exact Host.Outcome.next.inj ht ▸ (s.cancel_queues r).2
  | reset => exact absurd rfl hreset

/-- Settles O28: `State.rxByte_rxq` and `State.deliver_rxq` say how RXQ is used, `State.rxq_of_act` that
nothing else reaches it. -/
theorem receiveOrder : Obligations.ReceiveOrder := by
  unfold Obligations.ReceiveOrder
  refine ⟨fun s b => rfl, fun s t st harrive hframe hreset ht => ?other, fun s t bs ht => ?frame⟩
  case other =>
    by_cases hbyte : st = .rxByte
    · subst hbyte
      obtain rfl := Host.Outcome.next.inj ht
      obtain ⟨n, hn⟩ := s.rxByte_rxq
      exact ⟨n, hn, fun hne => absurd rfl hne⟩
    · exact ⟨0, State.rxq_of_act harrive hframe hbyte hreset ht, fun _ => rfl⟩
  case frame =>
    obtain ⟨arrived, rest, hbs, hrest, he⟩ := s.runFrame_eq bs
    obtain rfl := Host.Outcome.next.inj (he.symm.trans ht)
    by_cases hwait : s.fatal = true ∨ s.rx.state = .idle
    · refine ⟨arrived, rest, [], hbs, hrest, ?_, fun _ => rfl⟩
      rw [State.deliver_waits hwait, List.nil_append]
    · obtain ⟨taken, htaken⟩ := s.deliver_rxq arrived
      exact ⟨arrived, rest, taken, hbs, hrest, htaken, fun hw => absurd hw hwait⟩

/-! ### One requester among others -/

/-- `t` is `s` after a change on behalf of `q`: no other requester's registers change and every result goes
to `q` (60_exceptions.md R363, 10_state.md R39). -/
structure State.OnlyFor (q : Nat) (s t : State) : Prop where
  clients : ∀ r, r ≠ q → t.clients[r]? = s.clients[r]?
  results : ∃ l, t.results = s.results ++ l ∧ ∀ p ∈ l, p.1 = q

section OnlyFor

variable {q : Nat} {s t u : State}

theorem State.OnlyFor.refl (q : Nat) (s : State) : s.OnlyFor q s :=
  ⟨fun _ _ => rfl, [], (List.append_nil _).symm, by simp⟩

theorem State.onlyFor_modClient (f : Client → Client) (s : State) : s.OnlyFor q (s.modClient q f) :=
  ⟨fun _ hr => s.modClient_other f hr, [], (List.append_nil _).symm, by simp⟩

theorem State.onlyFor_endCommand (q : Nat) (res : Result) (s : State) :
    s.OnlyFor q (s.endCommand q res) :=
  ⟨fun _ hr => s.modClient_other Client.rest hr, _, rfl, by simp⟩

theorem State.Quiet.onlyFor (h : s.Quiet q t) : s.OnlyFor q t := by
  obtain ⟨f, hf, -⟩ := h.clients
  exact ⟨fun r hr => hf ▸ s.modClient_other f hr, h.results⟩

theorem State.OnlyFor.modClient (h : s.OnlyFor q t) (f : Client → Client) :
    s.OnlyFor q (t.modClient q f) :=
  ⟨fun r hr => (t.modClient_other f hr).trans (h.clients r hr), h.results⟩

theorem State.decodeExchange_onlyFor (op : ExOp) (c : Client) (f : Frame) :
    s.OnlyFor q (s.decodeExchange op q c f) := by
  cases hreply : op.hasReply with
  | true =>
    obtain ⟨u, hq, he⟩ := State.decodeExchange_cases hreply q c f s
    have hu : s.OnlyFor q u :=
      ⟨fun r hr => (hq.onlyFor.clients r hr).trans (s.modClient_other _ hr), hq.results⟩
    obtain ⟨he, -⟩ | ⟨res, he⟩ := he
    · exact he ▸ hu
    · exact he ▸ hu.modClient _
  | false =>
    have hdecoded := (State.OnlyFor.refl q s).modClient fun c => { c with exs := .decoded }
    cases op with
    | registerQuery | streamPoll => cases hreply
    | registerWrite | streamDrain => exact hdecoded.modClient _

/-- The end of a read concerns its owner only. -/
theorem State.endRead_onlyFor (howner : s.rx.owner = some q) (e : ReadEnd) :
    s.OnlyFor q (s.endRead e) := by
  obtain ⟨he, -⟩ | ⟨r, c, hr, -, -, he⟩ | ⟨r, c, op, hr, -, -, he⟩ := s.endRead_cases e
  · exact he ▸ ⟨fun _ _ => rfl, [], (List.append_nil _).symm, by simp⟩
  · obtain rfl := Option.some.inj (howner.symm.trans hr)
    rw [he]
    cases e with
    | cancelled => exact ⟨fun _ hr => s.modClient_other Client.rest hr, _, rfl, by simp⟩
    | frame | noData | resyncTimeout | timeout => exact ⟨fun _ _ => rfl, _, rfl, by simp⟩
  · obtain rfl := Option.some.inj (howner.symm.trans hr)
    rw [he]
    cases e with
    | frame f =>
      have h := State.decodeExchange_onlyFor (q := q) op c f
        (s := { s with rx := { s.rx with state := .idle, owner := none } })
      exact ⟨h.clients, h.results⟩
    | noData => exact ⟨fun _ _ => rfl, [], (List.append_nil _).symm, by simp⟩
    | resyncTimeout | timeout | cancelled =>
      exact ⟨fun _ hr => s.modClient_other Client.rest hr, _, rfl, by simp⟩

theorem State.grant_onlyFor (q : Nat) (s : State) : s.OnlyFor q (s.grant q) := by
  obtain he | ⟨-, -, -, ⟨-, he⟩ | ⟨-, he⟩⟩ := s.grant_cases q
  · exact he.symm ▸ .refl q s
  · exact he ▸ ⟨fun _ _ => rfl, _, rfl, by simp⟩
  · exact he ▸ ⟨fun _ hr => s.modClient_other _ hr, [], (List.append_nil _).symm, by simp⟩

theorem State.exchangeStep_onlyFor (q : Nat) (s : State) : s.OnlyFor q (s.exchangeStep q) := by
  obtain he | ⟨-, c, -, ⟨_, -, -, -, -, -, he⟩ | ⟨op, -, -, -, -, he⟩ | ⟨-, -, he⟩ |
    ⟨_, _, -, -, -, he⟩⟩ := s.exchangeStep_cases q
  · exact he.symm ▸ .refl q s
  · exact he ▸ ⟨fun _ _ => rfl, [], (List.append_nil _).symm, by simp⟩
  · obtain hl | hl := le_or_gt (exchangePayload op c).length 255
    · rw [he, State.writeExchangeFrame_of_le hl]
      exact ⟨fun _ hr => s.modClient_other _ hr, [], (List.append_nil _).symm, by simp⟩
    · rw [he, State.writeExchangeFrame_of_gt hl]
      exact (s.quiet_raise _ q).onlyFor
  · exact he ▸ s.onlyFor_endCommand q _
  · exact he ▸ s.onlyFor_endCommand q _

theorem State.timeout_onlyFor (q : Nat) (s : State) : s.OnlyFor q (s.timeout q) := by
  unfold State.timeout
  split_ifs with hfatal hread
  · exact .refl q s
  · exact State.endRead_onlyFor hread.1 _
  · exact .refl q s

theorem State.cancel_onlyFor (q : Nat) (s : State) : s.OnlyFor q (s.cancel q) := by
  unfold State.cancel
  split
  · exact .refl q s
  · split
    · exact .refl q s
    · split_ifs with hw hdr hrd hx hx
      · exact ⟨fun _ hr => s.modClient_other _ hr, _, rfl, by simp⟩
      · exact State.onlyFor_modClient _ s
      · exact State.endRead_onlyFor hrd.1 _
      · exact State.onlyFor_modClient _ s
      · have hback : s.OnlyFor q (s.modClient q Client.takeBack) := State.onlyFor_modClient _ s
        have hrest := hback.modClient Client.rest
        exact ⟨hrest.clients, _, rfl, by simp⟩
      · exact .refl q s

theorem State.runCommand_onlyFor {bs : Bytes} (ht : s.runCommand q bs = .next t) : s.OnlyFor q t := by
  obtain rfl | ⟨i, c, -, -, -, hdoes⟩ := State.runCommand_cases ht
  · exact ⟨fun _ _ => rfl, _, rfl, by simp⟩
  · cases hdoes with
    | quiet hq => exact ⟨hq.onlyFor.clients, hq.results⟩
    | ask => exact ⟨fun _ hr => s.modClient_other _ hr, [], (List.append_nil _).symm, by simp⟩
    | release | write => exact ⟨fun _ _ => rfl, _, rfl, by simp⟩
    | drain | read => exact ⟨fun _ _ => rfl, [], (List.append_nil _).symm, by simp⟩

end OnlyFor

/-- Settles O57: each of the steps named is a change on behalf of its requester. -/
theorem requestersAreSeparate : Obligations.RequestersAreSeparate := by
  unfold Obligations.RequestersAreSeparate
  intro s t q st hst ht
  suffices h : s.OnlyFor q t from ⟨h.clients, h.results⟩
  obtain ⟨bs, rfl | rfl⟩ | rfl | rfl | rfl | rfl := hst
  · exact State.runCommand_onlyFor ht
  · exact (State.runSubframe_quiet ht).onlyFor
  · exact Host.Outcome.next.inj ht ▸ s.grant_onlyFor q
  · exact Host.Outcome.next.inj ht ▸ s.exchangeStep_onlyFor q
  · exact Host.Outcome.next.inj ht ▸ s.timeout_onlyFor q
  · exact Host.Outcome.next.inj ht ▸ s.cancel_onlyFor q

/-! ### Refusal -/

section Refusal

variable {s t : State}

/-- A command that may not be issued is refused, if its requester exists at all. -/
theorem onCommand_refused (h : ¬ s.CanIssue) {b : Nat → Client → State}
    (ht : onCommand s b = .next t) : t = s.ret s.issuer .refused := by
  obtain ⟨-, he⟩ | ⟨_, -, -, he⟩ | ⟨_, -, hcan, -⟩ := onCommand_cases s b
  · cases he.symm.trans ht
  · exact (Host.Outcome.next.inj (he.symm.trans ht)).symm
  · exact absurd hcan h

theorem State.rejectSubframe_refused (h : ¬ s.CanIssue) {bs : Bytes} {e : Reject} {rd : Reader}
    (ht : s.rejectSubframe bs e rd = .next t) : t = s.ret s.issuer .refused := by
  unfold State.rejectSubframe at ht
  split at ht
  · exact onCommand_refused h ht
  · split at ht
    · exact onCommand_refused h ht
    · exact onCommand_refused h ht
    · split at ht
      · exact onCommand_refused h ht
      · exact State.refuseCommand_next ht

/-- A sub-frame of a requester that may not issue one is refused, and nothing is fetched (log 31). -/
theorem State.runSubframe_refused {r : Nat} {bs : Bytes} (h : ¬ { s with issuer := r }.CanIssue)
    (ht : s.runSubframe r bs = .next t) : t = { s with issuer := r }.ret r .refused := by
  unfold State.runSubframe at ht
  dsimp only at ht
  split at ht
  · exact State.refuseCommand_next ht
  · split at ht
    · rename_i i rd hd
      have hport := (decodeSub_fits (congrArg Prod.fst hd)).2
      have hready : State.ready { s with issuer := r } = false := by
        simpa using mt (State.canIssue_iff_ready _).mpr h
      have hfetch : State.fetchedSub i rd { s with issuer := r } = { s with issuer := r } := by
        simp [State.fetchedSub, hready]
      rw [hfetch] at ht
      obtain ⟨-, he⟩ | ⟨_, -, hcan, -⟩ := exec_cases (by rw [hport]; decide) ht
      · exact he
      · exact absurd hcan h
    · exact State.rejectSubframe_refused h ht

theorem State.not_canIssue_of_fatal (h : s.fatal = true) : ¬ s.CanIssue :=
  fun ⟨_, hfatal, _⟩ => absurd (h.symm.trans hfatal) (by decide)

/-- With FATAL = 1 the result port, RXQ and the model's issuer field are all a step can reach
(60_exceptions.md R347). -/
theorem State.act_of_fatal (h : s.fatal = true) {st : Stimulus} (hst : st ≠ .reset)
    (ht : s.act st = .next t) :
    ∃ w l issuer, t = { s with rxq := s.rxq ++ w, results := s.results ++ l, issuer := issuer } := by
  have same (he : s = t) :
      ∃ w l issuer, t = { s with rxq := s.rxq ++ w, results := s.results ++ l, issuer := issuer } :=
    ⟨[], [], s.issuer, by simp [← he]⟩
  have refused {r : Nat} (he : t = { s with issuer := r }.ret r .refused) :
      ∃ w l issuer, t = { s with rxq := s.rxq ++ w, results := s.results ++ l, issuer := issuer } :=
    ⟨[], [(r, .refused)], r, by simp [he, State.ret]⟩
  have hno (r : Nat) : ¬ { s with issuer := r }.CanIssue := State.not_canIssue_of_fatal h
  cases st with
  | command r bs =>
    obtain he | ⟨_, _, -, -, hcan, -⟩ := State.runCommand_cases ht
    · exact refused he
    · exact absurd hcan (hno r)
  | subframe r bs => exact refused (State.runSubframe_refused (hno r) ht)
  | frame bs =>
    obtain ⟨arrived, -, -, -, he⟩ := s.runFrame_eq bs
    rw [State.deliver_waits (.inl h)] at he
    exact ⟨arrived, [], s.issuer, by simp [← Host.Outcome.next.inj (he.symm.trans ht)]⟩
  | rxArrive b => exact ⟨[b], [], s.issuer, by simp [← Host.Outcome.next.inj ht, State.rxArrive]⟩
  | grant | exchange | txWrite | rxByte | txFlushed | timeout | cancel =>
    refine same (Eq.trans ?_ (Host.Outcome.next.inj ht))
    simp [State.grant, State.exchangeStep, State.txWrite, State.rxByte, State.txFlushed, State.timeout,
      State.cancel, h]
  | reset => exact absurd rfl hst

end Refusal

/-- Settles O53: a command that may not be issued is refused by `exec_of_not_canIssue`; the rest is
`State.act_of_fatal`, step by step. -/
theorem fatalRefusesEverything : Obligations.FatalRefusesEverything := by
  unfold Obligations.FatalRefusesEverything
  refine ⟨fun i s hport hr h => exec_of_not_canIssue hport hr h, fun s q bs e hq hd => ?undecodable,
    fun s h => ⟨fun i hport hr => exec_of_not_canIssue hport hr (State.not_canIssue_of_fatal h),
      ?txWrite, ?rxByte, ?txFlushed, fun r => ⟨?grant, ?exchange, ?timeout, ?cancel⟩, fun b => rfl,
      fun t st hst ht => ?every⟩⟩
  case undecodable =>
    have hd : decodeCommand bs = .error e := hd
    simp only [State.act, State.runCommand, hd, State.refuseCommand, List.getElem?_eq_getElem hq]
    rfl
  case every =>
    obtain ⟨w, l, issuer, rfl⟩ := State.act_of_fatal h hst ht
    exact ⟨⟨w, rfl⟩, ⟨l, rfl⟩, rfl⟩
  all_goals
    simp [State.act, State.grant, State.exchangeStep, State.txWrite, State.rxByte, State.txFlushed,
      State.timeout, State.cancel, h]

end Sys2Proof.Machine
end

section
/-! The token's holder (43_link_manager.md R190, R191; 47_exchange.md R317): what a step leaves of it, and
which steps free it. -/

namespace Sys2Proof.Machine

open Sys2Proof

/-! ### Byte spaces under a change of one requester -/

/-- A change that keeps the block's byte spaces, and the buffers of the requester it is on behalf of, is seen
in no byte space. -/
theorem sameBytes_of_modify {s t : State} {r : Nat} {f : Client → Client}
    (hblock : t.txbuf = s.txbuf ∧ t.txflight = s.txflight ∧ t.wire = s.wire ∧ t.rxq = s.rxq ∧
      t.rx.payload = s.rx.payload ∧ t.pay = s.pay)
    (hclients : t.clients = s.clients.modify r f)
    (hf : ∀ c, (f c).reqbuf = c.reqbuf ∧ (f c).wrbuf = c.wrbuf ∧ (f c).rdbuf = c.rdbuf) :
    SameBytes s t := by
  obtain ⟨htxbuf, htxflight, hwire, hrxq, hpayload, hpay⟩ := hblock
  have hreg (reg : Client → Bytes) (hreg : ∀ c, reg (f c) = reg c) (q : Nat) :
      (t.clients[q]?.map reg).getD [] = (s.clients[q]?.map reg).getD [] := by
    rw [hclients, map_getElem?_modify_of_keeps reg hreg]
  intro x a n
  suffices hspace : t.space x = s.space x by rw [State.memRead, State.memRead, hspace]
  cases x with
  | reqbuf q => exact hreg Client.reqbuf (fun c => (hf c).1) q
  | wrbuf q => exact hreg Client.wrbuf (fun c => (hf c).2.1) q
  | rdbuf q => exact hreg Client.rdbuf (fun c => (hf c).2.2) q
  | txbuf => exact htxbuf
  | txflight => exact htxflight
  | wire => exact hwire
  | rxq => exact hrxq
  | rxPayload => exact hpayload
  | pay => exact hpay

/-! ### EXS under a change of one requester -/

section ExsOf

variable {s t : State} {q r : Nat} {f : Client → Client}

theorem State.exsOf_eq_idle_iff :
    s.exsOf q = .idle ↔ ∀ c, s.clients[q]? = some c → c.exs = .idle := by
  unfold State.exsOf
  cases s.clients[q]? <;> simp

theorem State.exists_client_of_exsOf (h : s.exsOf q ≠ .idle) :
    ∃ c, s.clients[q]? = some c ∧ c.exs ≠ .idle := by
  rw [Ne, State.exsOf_eq_idle_iff] at h
  push Not at h
  exact h

/-- A change that takes `r` neither out of EX_IDLE nor into it takes nobody there. -/
theorem State.exsOf_idle_iff_of_modify (hclients : t.clients = s.clients.modify r f)
    (hf : ∀ c, s.clients[r]? = some c → ((f c).exs = .idle ↔ c.exs = .idle)) :
    t.exsOf q = .idle ↔ s.exsOf q = .idle := by
  by_cases hq : r = q
  · subst hq
    rw [State.exsOf, State.exsOf, hclients, List.getElem?_modify_eq]
    cases hc : s.clients[r]? with
    | none => rfl
    | some c => exact hf c hc
  · have hother : (s.clients.modify r f)[q]? = s.clients[q]? := s.modClient_other f (Ne.symm hq)
    rw [State.exsOf, State.exsOf, hclients, hother]

theorem State.exsOf_eq_idle_of_rest (hclients : t.clients = s.clients.modify q f)
    (hf : ∀ c, (f c).exs = .idle) : t.exsOf q = .idle := by
  rw [State.exsOf, hclients, List.getElem?_modify_eq]
  cases s.clients[q]? with
  | none => rfl
  | some c => exact hf c

end ExsOf

/-! ### What a step makes of a held token -/

/-- `q` holds the token still, and its exchange has neither begun nor ended. -/
structure State.KeepsHolder (q : Nat) (s t : State) : Prop where
  token : t.token = .held q
  exs : t.exsOf q = .idle ↔ s.exsOf q = .idle

/-- The exchange of `q` has ended with the token free (47_exchange.md R317). -/
structure State.EndsExchange (q : Nat) (s t : State) : Prop where
  token : t.token = .free
  running : s.exsOf q ≠ .idle
  ended : t.exsOf q = .idle

/-- The steps that free a token of `q` other than the end of its exchange (43_link_manager.md R191, R197;
60_exceptions.md R353, R360). -/
def State.FreesToken (q : Nat) (s : State) (st : Stimulus) : Prop :=
  st = .reset ∨
  (∃ bs, st = .command q bs ∧ decode .command bs = .ok .lockRelease ∧
    { s with issuer := q }.CanIssue) ∨
  (st = .cancel q ∧ s.rx.owner = some q) ∨
  (st = .txFlushed ∧ s.drOwner = some q ∧ ∃ c, s.clients[q]? = some c ∧ c.cancelled = true)

section Holder

variable {s t u : State} {q r : Nat} {f : Client → Client}

theorem State.KeepsHolder.of_modify (htoken : t.token = .held q)
    (hclients : t.clients = s.clients.modify r f)
    (hf : ∀ c, s.clients[r]? = some c → ((f c).exs = .idle ↔ c.exs = .idle)) :
    s.KeepsHolder q t :=
  ⟨htoken, State.exsOf_idle_iff_of_modify hclients hf⟩

theorem State.KeepsHolder.of_eq (htoken : t.token = .held q) (hclients : t.clients = s.clients) :
    s.KeepsHolder q t :=
  ⟨htoken, by rw [State.exsOf, State.exsOf, hclients]⟩

theorem State.Quiet.keepsHolder (h : s.Quiet r t) (htoken : s.token = .held q) :
    s.KeepsHolder q t := by
  obtain ⟨f, hf, hk⟩ := h.clients
  exact .of_modify (h.token.trans htoken) hf fun c hc => by rw [(hk c hc).exs]

/-- The end of a command of `q` whose exchange is running is the end of that exchange. -/
theorem State.endsExchange_of_endCommand {res : Result} (hclients : u.clients = s.clients)
    (hrun : s.exsOf q ≠ .idle) : s.EndsExchange q (u.endCommand q res) := by
  refine ⟨rfl, hrun, State.exsOf_eq_idle_of_rest (s := s) (f := Client.rest) ?_ fun _ => rfl⟩
  rw [State.endCommand_clients, hclients]

theorem State.LinkInv.eq_holder (h : s.LinkInv) (htoken : s.token = .held q) {c : Client}
    (hc : s.clients[r]? = some c) (hx : c.exs ≠ .idle) : r = q := by
  obtain ⟨-, hheld, -⟩ := h.client hc
  exact Token.held.inj ((hheld hx).symm.trans htoken)

theorem State.LinkInv.readOwner_eq (h : s.LinkInv) (htoken : s.token = .held q)
    (howner : s.rx.owner = some r) : r = q := by
  obtain ⟨-, -, -, hread, -⟩ := h
  exact Token.held.inj ((hread r howner).1.symm.trans htoken)

/-- A drain is its token holder's (43_link_manager.md R194). -/
theorem State.LinkInv.drOwner_eq_holder (h : s.LinkInv) (hdrs : s.drs ≠ .idle)
    (htoken : s.token = .held r) : s.drOwner = some r := by
  obtain ⟨-, -, hdrain, -, -, hidle, -⟩ := h
  obtain ⟨q, hq⟩ := Option.ne_none_iff_exists'.mp (mt hidle.mpr hdrs)
  obtain rfl : q = r := Token.held.inj ((hdrain q hq).1.symm.trans htoken)
  exact hq

theorem State.LinkInv.await_of_read (h : s.LinkInv) {c : Client} (hc : s.clients[r]? = some c)
    (howner : s.rx.owner = some r) (hop : c.exOp ≠ none) : c.exs = .await := by
  obtain ⟨-, -, -, -, -, -, -, -, -, -, -, hawait⟩ := h.client hc
  exact hawait howner hop

/-- The decode of a reply is in the middle of its exchange. -/
theorem State.decodeExchange_keepsHolder {op : ExOp} {c : Client} {fr : Frame}
    (htoken : s.token = .held q) (hrun : ∀ d, s.clients[r]? = some d → d.exs ≠ .idle) :
    s.KeepsHolder q (s.decodeExchange op r c fr) := by
  have hdecoded : s.KeepsHolder q (s.modClient r fun c => { c with exs := .decoded }) :=
    .of_modify htoken rfl fun d hd => iff_of_false (by simp) (hrun d hd)
  have hconclude {u : State} (hu : s.KeepsHolder q u) (res : Result) :
      s.KeepsHolder q (u.conclude r res) :=
    ⟨hu.token, (State.exsOf_idle_iff_of_modify (s := u) (r := r)
      (f := fun c => { c with outcome := some res }) rfl fun _ _ => Iff.rfl).trans hu.exs⟩
  cases hreply : op.hasReply with
  | true =>
    obtain ⟨u, hq, he⟩ := State.decodeExchange_cases hreply r c fr s
    have hk := hq.keepsHolder hdecoded.token
    have hu : s.KeepsHolder q u := ⟨hk.token, hk.exs.trans hdecoded.exs⟩
    obtain ⟨he, -⟩ | ⟨res, he⟩ := he
    · exact he ▸ hu
    · exact he ▸ hconclude hu res
  | false =>
    cases op with
    | registerQuery | streamPoll => cases hreply
    | registerWrite | streamDrain => exact hconclude hdecoded _

/-- The end of a read keeps the token, ends the exchange, or is the cancel of a bare read
(43_link_manager.md R211, 47_exchange.md R321, 60_exceptions.md R353). -/
theorem State.LinkInv.endRead_holder (h : s.LinkInv) (htoken : s.token = .held q) (e : ReadEnd) :
    s.KeepsHolder q (s.endRead e) ∨ s.EndsExchange q (s.endRead e) ∨
      (e = .cancelled ∧ (s.endRead e).token = .free) := by
  obtain ⟨he, -⟩ | ⟨r, c, -, -, -, he⟩ | ⟨r, c, op, howner, hc, hop, he⟩ := s.endRead_cases e
  · exact .inl (he ▸ .of_eq htoken rfl)
  · rw [he]
    cases e with
    | cancelled => exact .inr (.inr ⟨rfl, rfl⟩)
    | frame | noData | resyncTimeout | timeout => exact .inl (.of_eq htoken rfl)
  · obtain rfl := h.readOwner_eq htoken howner
    have hawait := h.await_of_read hc howner (by simp [hop])
    have hrun : s.exsOf r ≠ .idle := by simp [State.exsOf_of_client hc, hawait]
    rw [he]
    cases e with
    | frame fr =>
      have hkeep := State.decodeExchange_keepsHolder (op := op) (c := c) (fr := fr) (r := r)
        (s := { s with rx := { s.rx with state := .idle, owner := none } }) htoken
        fun d hd => by
          obtain rfl := Option.some.inj (hc.symm.trans hd)
          simp [hawait]
      exact .inl ⟨hkeep.token, hkeep.exs⟩
    | noData => exact .inl (.of_eq htoken rfl)
    | resyncTimeout | timeout | cancelled =>
      exact .inr (.inl (State.endsExchange_of_endCommand rfl hrun))

theorem State.LinkInv.rxByte_holder (h : s.LinkInv) (htoken : s.token = .held q) :
    s.KeepsHolder q s.rxByte ∨ s.EndsExchange q s.rxByte := by
  obtain he | ⟨-, hstate, hr | ⟨u, e, hr, hengine, he⟩⟩ := s.rxByte_takesByte
  · exact .inl (he.symm ▸ .of_eq htoken rfl)
  · exact .inl (.of_eq (by rw [hr.eq, htoken]) (by rw [hr.eq]))
  · have hclients : u.clients = s.clients := by rw [hr.eq]
    have hheld : u.token = .held q := by rw [hr.eq, htoken]
    have hexs : u.exsOf q = s.exsOf q := by rw [State.exsOf, State.exsOf, hclients]
    rw [he]
    obtain hk | hk | ⟨rfl, -⟩ := (h.reads hstate hr).endRead_holder hheld e
    · exact .inl ⟨hk.token, hexs ▸ hk.exs⟩
    · exact .inr ⟨hk.token, hexs ▸ hk.running, hk.ended⟩
    · cases hengine

/-- With the token free nobody reads. -/
theorem State.LinkInv.rx_idle_of_free (h : s.LinkInv) (hfree : s.token = .free) :
    s.rx.state = .idle := by
  obtain ⟨-, -, -, hread, -, -, -, hrx, -⟩ := h
  exact hrx.mpr (State.owner_eq_none_of_free hread hfree)

theorem State.LinkInv.deliver_holder (h : s.LinkInv) (htoken : s.token = .held q) (bs : Bytes) :
    s.KeepsHolder q (s.deliver bs) ∨ s.EndsExchange q (s.deliver bs) := by
  induction bs generalizing s with
  | nil => exact .inl (.of_eq htoken rfl)
  | cons b bs ih =>
    have harrive : (s.rxArrive b).LinkInv := h
    obtain hk | hk := harrive.rxByte_holder htoken
    · obtain hd | hd := ih harrive.rxByte hk.token
      · exact .inl ⟨hd.token, hd.exs.trans hk.exs⟩
      · exact .inr ⟨hd.token, fun hs => hd.running (hk.exs.mpr hs), hd.ended⟩
    · have hwait := State.deliver_waits (.inr (harrive.rxByte.rx_idle_of_free hk.token)) bs
      rw [show s.deliver (b :: bs) = (s.rxArrive b).rxByte.deliver bs from rfl, hwait]
      exact .inr ⟨hk.token, hk.running, hk.ended⟩

theorem State.LinkInv.exchangeStep_holder (h : s.LinkInv) (htoken : s.token = .held q) :
    s.KeepsHolder q (s.exchangeStep r) ∨ s.EndsExchange q (s.exchangeStep r) := by
  have ended {c : Client} (hc : s.clients[r]? = some c) (hx : c.exs ≠ .idle) (res : Result) :
      s.EndsExchange q (s.endCommand r res) := by
    obtain rfl := h.eq_holder htoken hc hx
    exact State.endsExchange_of_endCommand rfl (by rwa [State.exsOf_of_client hc])
  obtain he | ⟨-, c, hc, ⟨_, -, -, -, -, -, he⟩ | ⟨op, hx, -, -, -, he⟩ | ⟨hx, -, he⟩ |
    ⟨_, _, hx, -, -, he⟩⟩ := s.exchangeStep_cases r
  · exact .inl (he.symm ▸ .of_eq htoken rfl)
  · exact .inl (he ▸ .of_eq htoken rfl)
  · rw [he]
    obtain hl | hl := le_or_gt (exchangePayload op c).length 255
    · rw [State.writeExchangeFrame_of_le hl]
      exact .inl (.of_modify (f := Client.afterFrame op) (r := r) htoken rfl
        fun d _ => by cases op <;> rfl)
    · rw [State.writeExchangeFrame_of_gt hl]
      exact .inl (.of_eq htoken rfl)
  · exact .inr (he ▸ ended hc (by simp [hx]) _)
  · exact .inr (he ▸ ended hc (by simp [hx]) _)

/-- All `cancel(r)` can do (60_exceptions.md R353, 47_exchange.md R324). -/
theorem State.cancel_cases (r : Nat) (s : State) :
    s.cancel r = s ∨
    ∃ c, s.clients[r]? = some c ∧
      ((r ∈ s.waiters ∧ s.cancel r =
          (State.modClient r Client.rest { s with waiters := waitersErase r s.waiters }).ret r
            (cancelResult c.exOp)) ∨
       s.cancel r = (s.modClient r fun c => { c with cancelled := true }) ∨
       (s.rx.owner = some r ∧ s.cancel r = s.endRead .cancelled) ∨
       ((c.exs = .sent ∨ c.exs = .decoded) ∧ s.cancel r =
          (s.modClient r Client.takeBack).endCommand r (cancelResult c.exOp))) := by
  unfold State.cancel
  split
  · exact .inl rfl
  · cases hc : s.clients[r]? with
    | none => exact .inl rfl
    | some c =>
      dsimp only
      split_ifs with hw hdr hrd hx hx
      · exact .inr ⟨c, rfl, .inl ⟨hw, rfl⟩⟩
      · exact .inr ⟨c, rfl, .inr (.inl rfl)⟩
      · exact .inr ⟨c, rfl, .inr (.inr (.inl ⟨hrd.1, rfl⟩))⟩
      · exact .inr ⟨c, rfl, .inr (.inl rfl)⟩
      · exact .inr ⟨c, rfl, .inr (.inr (.inr ⟨hx, rfl⟩))⟩
      · exact .inl rfl

theorem State.LinkInv.cancel_holder (h : s.LinkInv) (htoken : s.token = .held q) :
    s.KeepsHolder q (s.cancel r) ∨ s.EndsExchange q (s.cancel r) ∨
      ((s.cancel r).token = .free ∧ r = q ∧ s.rx.owner = some q) := by
  obtain he | ⟨c, hc, ⟨hw, he⟩ | he | ⟨howner, he⟩ | ⟨hx, he⟩⟩ := s.cancel_cases r
  · exact .inl (he.symm ▸ .of_eq htoken rfl)
  · refine .inl (he ▸ .of_modify (f := Client.rest) (r := r) htoken rfl fun d hd => ?_)
    obtain ⟨-, -, -, hwaits, -⟩ := h.client hd
    exact iff_of_true rfl (hwaits hw).1
  · exact .inl (he ▸ .of_modify (r := r) htoken rfl fun _ _ => Iff.rfl)
  · obtain rfl := h.readOwner_eq htoken howner
    rw [he]
    exact (h.endRead_holder htoken _).imp_right (.imp_right fun hfree => ⟨hfree.2, rfl, howner⟩)
  · have hne : c.exs ≠ .idle := by obtain hx | hx := hx <;> simp [hx]
    obtain rfl := h.eq_holder htoken hc hne
    refine .inr (.inl (he ▸ ⟨rfl, by rwa [State.exsOf_of_client hc], ?_⟩))
    exact State.exsOf_eq_idle_of_rest (s := s.modClient r Client.takeBack) (f := Client.rest) rfl
      fun _ => rfl

theorem State.LinkInv.txFlushed_holder (h : s.LinkInv) (htoken : s.token = .held q) :
    s.KeepsHolder q s.txFlushed ∨ (s.txFlushed.token = .free ∧ s.drOwner = some q ∧
      ∃ c, s.clients[q]? = some c ∧ c.cancelled = true) := by
  obtain he | ⟨-, -, ⟨r, c, howner, hc, he⟩ | ⟨he, -⟩⟩ := s.txFlushed_cases
  · exact .inl (he.symm ▸ .of_eq htoken rfl)
  · have ⟨_, _, hdrain, _⟩ := h
    obtain rfl : r = q := Token.held.inj ((hdrain r howner).1.symm.trans htoken)
    obtain ⟨-, -, -, -, -, -, -, -, -, hwrite, -⟩ := h.client hc
    have running (hop : c.exOp ≠ none) {x : ExState} (hx : x ≠ .idle) (d : Client)
        (hd : s.clients[r]? = some d) : x = .idle ↔ d.exs = .idle := by
      obtain rfl := Option.some.inj (hc.symm.trans hd)
      exact iff_of_false hx (by simp [(hwrite howner hop).1])
    rw [he]
    obtain ⟨hcan, hd⟩ | ⟨-, -, hd⟩ | ⟨op, -, hop, -, hd⟩ | ⟨op, -, hop, -, hd⟩ :=
      State.drained_cases r c { s with drs := .idle, drOwner := none }
    · exact .inr ⟨hd ▸ rfl, howner, c, hc, hcan⟩
    · exact .inl (hd ▸ .of_eq htoken rfl)
    · exact .inl (hd ▸ .of_modify (r := r) htoken rfl (running (by simp [hop]) (by simp)))
    · exact .inl (hd ▸ .of_modify (r := r) htoken rfl (running (by simp [hop]) (by simp)))
  · exact .inl (he ▸ .of_eq htoken rfl)

/-- What any step makes of a held token: its holder keeps it, its exchange ends, or the step is one of those
that free it. -/
theorem State.LinkInv.act_holder {st : Stimulus} (h : s.LinkInv) (htoken : s.token = .held q)
    (ht : s.act st = .next t) :
    s.KeepsHolder q t ∨ s.EndsExchange q t ∨ (t.token = .free ∧ s.FreesToken q st) := by
  cases st with
  | command r bs =>
    obtain rfl | ⟨i, c, hd, hc, hcan, hdoes⟩ := State.runCommand_cases ht
    · exact .inl (.of_eq htoken rfl)
    · cases hdoes with
      | quiet hq =>
        have hk := hq.keepsHolder htoken
        exact .inl ⟨hk.token, hk.exs⟩
      | ask => exact .inl (.of_modify (r := r) htoken rfl fun _ _ => Iff.rfl)
      | release hi hheld =>
        obtain rfl : r = q := Token.held.inj (hheld.symm.trans htoken)
        exact .inr (.inr ⟨rfl, .inr (.inl ⟨bs, rfl, hi ▸ hd, hcan⟩)⟩)
      | write | drain | read => exact .inl (.of_eq htoken rfl)
  | subframe r bs => exact .inl ((State.runSubframe_quiet ht).keepsHolder htoken)
  | frame bs =>
    obtain ⟨arrived, -, -, -, he⟩ := s.runFrame_eq bs
    obtain rfl := Host.Outcome.next.inj (he.symm.trans ht)
    exact (h.deliver_holder htoken arrived).imp_right .inl
  | grant r =>
    obtain rfl := Host.Outcome.next.inj ht
    obtain he | ⟨-, hfree, -⟩ := s.grant_cases r
    · exact .inl (he.symm ▸ .of_eq htoken rfl)
    · cases hfree.symm.trans htoken
  | exchange r =>
    exact Host.Outcome.next.inj ht ▸ (h.exchangeStep_holder htoken).imp_right .inl
  | txWrite =>
    obtain rfl := Host.Outcome.next.inj ht
    obtain he | ⟨-, -, he⟩ := s.txWrite_cases
    · exact .inl (he.symm ▸ .of_eq htoken rfl)
    · exact .inl (he ▸ .of_eq htoken rfl)
  | rxByte => exact Host.Outcome.next.inj ht ▸ (h.rxByte_holder htoken).imp_right .inl
  | rxArrive b => exact .inl (Host.Outcome.next.inj ht ▸ .of_eq htoken rfl)
  | txFlushed =>
    obtain rfl := Host.Outcome.next.inj ht
    exact (h.txFlushed_holder htoken).imp_right fun ⟨hfree, hf⟩ =>
      .inr ⟨hfree, .inr (.inr (.inr ⟨rfl, hf⟩))⟩
  | timeout r =>
    obtain rfl := Host.Outcome.next.inj ht
    change s.KeepsHolder q (s.timeout r) ∨ _
    unfold State.timeout
    split_ifs
    · exact .inl (.of_eq htoken rfl)
    · exact (h.endRead_holder htoken _).imp_right (.imp_right fun hc => by cases hc.1)
    · exact .inl (.of_eq htoken rfl)
  | cancel r =>
    obtain rfl := Host.Outcome.next.inj ht
    refine (h.cancel_holder htoken).imp_right (.imp_right fun ⟨hfree, hr, howner⟩ => ?_)
    exact ⟨hfree, .inr (.inr (.inl ⟨hr ▸ rfl, howner⟩))⟩
  | reset => exact .inr (.inr ⟨Host.Outcome.next.inj ht ▸ rfl, .inl rfl⟩)

end Holder

/-! ### The grant -/

section Grant

variable {s : State} {r : Nat} {c : Client}

/-- The grant to a waiter of a bare LOCK_ACQUIRE (43_link_manager.md R190 step 2). -/
theorem State.grant_of_bare (hfatal : s.fatal = false) (hfree : s.token = .free) (hw : r ∈ s.waiters)
    (hc : s.clients[r]? = some c) (hop : c.exOp = none) :
    s.grant r = { s with
      token := .held r, waiters := waitersErase r s.waiters
      results := s.results ++ [(r, .granted)] } := by
  simp [State.grant, hfatal, hfree, hw, hc, hop, State.ret]

/-- The grant to a waiting exchange (47_exchange.md R316). -/
theorem State.grant_of_exchange (hfatal : s.fatal = false) (hfree : s.token = .free)
    (hw : r ∈ s.waiters) (hc : s.clients[r]? = some c) (hop : c.exOp ≠ none) :
    s.grant r = { s with
      token := .held r, waiters := waitersErase r s.waiters
      clients := s.clients.modify r fun c =>
        { c with exs := .token, written := false, cancelled := false } } := by
  obtain ⟨op, hop⟩ := Option.ne_none_iff_exists'.mp hop
  simp [State.grant, hfatal, hfree, hw, hc, hop, State.modClient]

theorem State.grant_of_disabled (h : s.fatal = true ∨ s.token ≠ .free ∨ r ∉ s.waiters) :
    s.grant r = s := by
  obtain he | ⟨hfatal, hfree, hw, -⟩ := s.grant_cases r
  · exact he
  · simp [hfatal, hfree, hw] at h

end Grant

/-- Settles O16: the grant case by case, and `State.LinkInv.act_holder` for the steps that free a held
token. -/
theorem grantHandsTheToken : Obligations.GrantHandsTheToken := by
  unfold Obligations.GrantHandsTheToken
  refine ⟨fun s r c hc => ⟨fun hfatal hfree hw => ?grant, fun h => ?disabled⟩,
    fun s t st q h htoken ht => ?held⟩
  case grant =>
    have herase (q : Nat) := mem_waitersErase q r s.waiters
    by_cases hop : c.exOp = none
    · refine ⟨_, congrArg Host.Outcome.next (State.grant_of_bare hfatal hfree hw hc hop), rfl, herase, ?_,
        fun _ => rfl, fun hne => absurd hop hne⟩
      intro x a n
      cases x <;> rfl
    · refine ⟨_, congrArg Host.Outcome.next (State.grant_of_exchange hfatal hfree hw hc hop), rfl, herase, ?_,
        fun hnone => absurd hnone hop, fun _ => rfl⟩
      exact sameBytes_of_modify ⟨rfl, rfl, rfl, rfl, rfl, rfl⟩ rfl fun _ => ⟨rfl, rfl, rfl⟩
  case disabled => exact congrArg Host.Outcome.next (State.grant_of_disabled h)
  case held =>
    obtain hk | hk | ⟨hfree, hreset | hrelease | hcancel | hflush⟩ := h.act_holder htoken ht
    · exact .inl hk.token
    · exact .inr ⟨hk.token, .inr (.inr (.inl ⟨hk.running, hk.ended⟩))⟩
    · exact .inr ⟨hfree, .inl hreset⟩
    · exact .inr ⟨hfree, .inr (.inl hrelease)⟩
    · exact .inr ⟨hfree, .inr (.inr (.inr (.inl hcancel)))⟩
    · exact .inr ⟨hfree, .inr (.inr (.inr (.inr hflush)))⟩

/-! ### The frame of an exchange -/

theorem c2s_eq (channel : U32) (data : Bytes) :
    c2s channel data = [0x40] ++ vuEnc channel ++ vuEnc (BitVec.ofNat 32 data.length) ++ data := by
  simp [c2s]

/-- A chunk's length takes one byte, so its sub-frame has at most 107 (47_exchange.md R320). -/
theorem length_c2s_le {data : Bytes} (channel : U32) (h : data.length ≤ 100) :
    (c2s channel data).length ≤ 107 := by
  have hchannel : (vuEnc channel).length ≤ 5 := length_vuEnc35_le _
  have hlen : (vuEnc (BitVec.ofNat 32 data.length)).length ≤ 1 := by
    rw [length_vuEnc_le_iff _ 1 (by decide), BitVec.toNat_ofNat]
    omega
  simp only [c2s, List.length_cons, List.length_append]
  omega

/-- The poll is a STREAM_C2S without data (47_exchange.md R322). -/
theorem c2s_nil (channel : U32) : c2s channel [] = [0x40] ++ vuEnc channel ++ [0x00] := by
  have hzero : vuEnc 0#32 = [0x00] := by decide
  simp [c2s, hzero]

/-- A frame can carry every exchange's payload (47_exchange.md R318 to R322). -/
theorem length_exchangePayload_le {op : ExOp} {c : Client}
    (h : op = .registerQuery ∨ op = .registerWrite → c.reqbuf.length ≤ 255) :
    (exchangePayload op c).length ≤ 255 := by
  cases op with
  | registerQuery => exact h (.inl rfl)
  | registerWrite => exact h (.inr rfl)
  | streamDrain => exact (length_c2s_le _ (List.length_take_le _ _)).trans (by decide)
  | streamPoll => exact (length_c2s_le _ (by decide)).trans (by decide)

/-- Settles O52: `State.LinkInv.act_holder` for the ending steps, the equations of the exchange's own step
for the rest. -/
theorem exchangeEndFreesTheToken : Obligations.ExchangeEndFreesTheToken := by
  unfold Obligations.ExchangeEndFreesTheToken
  refine ⟨fun s t r h hrun ht hended => ?ends, fun s r c op h hfatal hc hop => ?step,
    fun s r h hno => congrArg Host.Outcome.next ?nothing⟩
  case ends =>
    obtain ⟨c, hc, hx⟩ := State.exists_client_of_exsOf hrun
    obtain ⟨-, hheld, -⟩ := h.client hc
    obtain ⟨inputs, tick, st, hst⟩ := step_eq_act s
    obtain hk | hk | ⟨hfree, -⟩ := State.LinkInv.act_holder
      (s := { s with inputs := inputs, tick := tick }) h (hheld hx) (hst ▸ ht)
    · exact absurd (hk.exs.mp hended) hrun
    · exact hk.token
    · exact hfree
  case step =>
    obtain ⟨-, hheld, -, -, -, hsent, -, hdecoded, -, -, hreq, -⟩ := h.client hc
    refine ⟨fun hx hw => ?write, fun hx hw hdrs => ?swap, fun hx => ?sent, fun hx => ?decoded⟩
    case write =>
      have hl : (exchangePayload op c).length ≤ 255 :=
        length_exchangePayload_le fun hop' => hreq (by simpa [hop] using hop')
      have hact := State.exchangeStep_of_unwritten hfatal hc hx hop (hheld (by simp [hx])) hw
      rw [State.writeExchangeFrame_of_le hl] at hact
      cases op with
      | registerQuery | registerWrite => exact ⟨hl, congrArg _ hact⟩
      | streamDrain =>
        simp only [exchangePayload, c2s_eq] at hl hact
        exact ⟨hl, congrArg _ hact⟩
      | streamPoll =>
        simp only [exchangePayload, c2s_nil] at hl hact
        exact ⟨hl, congrArg _ hact⟩
    case swap =>
      exact congrArg _ (State.exchangeStep_of_written hfatal hc hx hop (hheld (by simp [hx])) hw hdrs)
    case sent =>
      obtain ⟨-, -, hop'⟩ := hsent hx
      exact congrArg _ (State.exchangeStep_of_sent hfatal hc hx hop')
    case decoded =>
      obtain ⟨hout, -⟩ := hdecoded hx
      obtain ⟨res, hres⟩ := Option.ne_none_iff_exists'.mp (hout.resolve_left (by simp [hfatal]))
      exact ⟨res, hres, congrArg _ (State.exchangeStep_of_decoded hfatal hc hx hop hres)⟩
  case nothing =>
    obtain he | ⟨hfatal, c, hc, hstep⟩ := s.exchangeStep_cases r
    · exact he
    · have hdrain := h.drOwner_eq_holder (r := r)
      have := h.client hc
      rw [State.exsOf_of_client hc] at hno
      grind

end Sys2Proof.Machine
end

section
/-! The receive engine byte by byte (43_link_manager.md R201 to R206): what each byte step makes of the read,
and how a read ends. -/

namespace Sys2Proof.Machine

open Sys2Proof

/-! ### One byte step -/

section Byte

variable {s : State} {b : Byte} {q : Bytes}

theorem State.rxByte_of_pending (hfatal : s.fatal = false) (hstate : s.rx.state ≠ .idle)
    (hq : s.rxq = b :: q) : s.rxByte = State.rxTake b { s with rxq := q } := by
  simp [State.rxByte, hfatal, hstate, hq]

theorem State.rxByte_of_disabled (h : s.fatal = true ∨ s.rx.state = .idle ∨ s.rxq = []) :
    s.rxByte = s := by
  obtain he | ⟨hfatal, hstate, b, q, hq, -⟩ := s.rxByte_cases
  · exact he
  · simp [hfatal, hstate, hq] at h

section Header

variable (hstate : s.rx.state = .hdr)
include hstate

/-- The low byte of the magic (43_link_manager.md R202). -/
theorem State.rxTake_magicLow (hcnt : s.rx.cnt = 0) : s.rxTake b = { s with
    crcAcc := crcStep s.rx.acc b
    rx := { s.rx with
      acc := crcStep s.rx.acc b, magic := s.rx.magic.extractLsb' 8 8 ++ b, cnt := 1 } } := by
  simp [State.rxTake, hstate, State.rxHeader, RxEngine.feed, RxEngine.headerByte, hcnt]

/-- The high byte of the magic. -/
theorem State.rxTake_magicHigh (hcnt : s.rx.cnt = 1) : s.rxTake b = { s with
    crcAcc := crcStep s.rx.acc b
    rx := { s.rx with
      acc := crcStep s.rx.acc b, magic := b ++ s.rx.magic.extractLsb' 0 8, cnt := 2 } } := by
  simp [State.rxTake, hstate, State.rxHeader, RxEngine.feed, RxEngine.headerByte, hcnt]

/-- The source byte. -/
theorem State.rxTake_src (hcnt : s.rx.cnt = 2) : s.rxTake b = { s with
    crcAcc := crcStep s.rx.acc b
    rx := { s.rx with acc := crcStep s.rx.acc b, src := b, cnt := 3 } } := by
  simp [State.rxTake, hstate, State.rxHeader, RxEngine.feed, RxEngine.headerByte, hcnt]

/-- The destination byte behind the right magic. -/
theorem State.rxTake_dst (hcnt : s.rx.cnt = 3) (hmagic : s.rx.magic = 0xAB54) :
    s.rxTake b = { s with
      crcAcc := crcStep s.rx.acc b
      rx := { s.rx with acc := crcStep s.rx.acc b, dst := b, cnt := 4, state := .len } } := by
  simp [State.rxTake, hstate, State.rxHeader, RxEngine.feed, RxEngine.headerByte, hcnt, hmagic,
    Config.magic]

/-- The destination byte behind a wrong magic resynchronizes (43_link_manager.md R203). -/
theorem State.rxTake_badMagic (hcnt : s.rx.cnt = 3) (hmagic : s.rx.magic ≠ 0xAB54) :
    s.rxTake b = (State.discard { s with
      crcAcc := crcStep s.rx.acc b
      rx := { s.rx with acc := crcStep s.rx.acc b, dst := b, cnt := 4 } }).endRead
        .resyncTimeout := by
  have hmagic : s.rx.magic ≠ 0xAB54#16 := hmagic
  simp [State.rxTake, hstate, State.rxHeader, RxEngine.feed, RxEngine.headerByte, hcnt, hmagic,
    Config.magic]

end Header

/-- The length byte (43_link_manager.md R204). -/
theorem State.rxTake_len (hstate : s.rx.state = .len) : s.rxTake b = { s with
    crcAcc := crcStep s.rx.acc b
    rx := { s.rx with acc := crcStep s.rx.acc b, len := b, cnt := 0, state := .body } } := by
  simp [State.rxTake, hstate, State.rxLength, RxEngine.feed]

theorem cnt_lt_iff (cnt : BitVec 9) (len : Byte) : cnt < len.setWidth 9 ↔ cnt.toNat < len.toNat := by
  rw [BitVec.lt_def, BitVec.toNat_setWidth_of_le (by decide)]

theorem cnt_eq_iff (cnt : BitVec 9) (len : Byte) : cnt = len.setWidth 9 ↔ cnt.toNat = len.toNat := by
  rw [← BitVec.toNat_inj, BitVec.toNat_setWidth_of_le (by decide)]

section Body

variable (hstate : s.rx.state = .body)
include hstate

/-- A payload byte (43_link_manager.md R205). -/
theorem State.rxTake_payload (hcnt : s.rx.cnt.toNat < s.rx.len.toNat) : s.rxTake b = { s with
    crcAcc := crcStep s.rx.acc b
    rx := { s.rx with
      acc := crcStep s.rx.acc b, payload := s.rx.payload ++ [b], cnt := s.rx.cnt + 1 } } := by
  simp only [State.rxTake, hstate, State.rxBody, if_pos ((cnt_lt_iff _ _).mpr hcnt), RxEngine.feed]

/-- The low byte of the CRC field. -/
theorem State.rxTake_crcLow (hcnt : s.rx.cnt.toNat = s.rx.len.toNat) : s.rxTake b = { s with
    rx := { s.rx with crc := s.rx.crc.extractLsb' 8 8 ++ b, cnt := s.rx.cnt + 1 } } := by
  simp only [State.rxTake, hstate, State.rxBody, if_neg (mt (cnt_lt_iff _ _).mp hcnt.not_lt),
    if_pos ((cnt_eq_iff _ _).mpr hcnt)]

/-- The high byte of the CRC field completes the frame (43_link_manager.md R206). -/
theorem State.rxTake_crcHigh (hcnt : s.rx.len.toNat < s.rx.cnt.toNat) : s.rxTake b =
    State.rxComplete { s with
      rx := { s.rx with crc := b ++ s.rx.crc.extractLsb' 0 8, cnt := s.rx.cnt + 1 } } := by
  simp only [State.rxTake, hstate, State.rxBody, if_neg (mt (cnt_lt_iff _ _).mp hcnt.not_gt),
    if_neg (mt (cnt_eq_iff _ _).mp hcnt.ne')]

end Body

end Byte

/-- Settles O24: a pending byte is handed to the step of its state, whose equation says the rest. -/
theorem rxTakesOneByte : Obligations.RxTakesOneByte := by
  unfold Obligations.RxTakesOneByte
  intro s b q fed
  refine ⟨fun h => congrArg Host.Outcome.next (State.rxByte_of_disabled h), fun hfatal hq => ?_⟩
  let u : State := { s with rxq := q }
  have hact (hstate : s.rx.state ≠ .idle) : s.act .rxByte = .next (u.rxTake b) :=
    congrArg Host.Outcome.next (State.rxByte_of_pending hfatal hstate hq)
  have hhdr (hstate : s.rx.state = .hdr) := hact (by simp [hstate])
  have hbody (hstate : s.rx.state = .body) := hact (by simp [hstate])
  refine ⟨fun hstate hcnt => ?_, fun hstate hcnt => ?_, fun hstate hcnt => ?_,
    fun hstate hcnt hmagic => ?_, fun hstate => ?_, fun hstate hcnt => ?_, fun hstate hcnt => ?_⟩
  · exact (hhdr hstate).trans (congrArg _ (State.rxTake_magicLow (s := u) hstate hcnt))
  · exact (hhdr hstate).trans (congrArg _ (State.rxTake_magicHigh (s := u) hstate hcnt))
  · exact (hhdr hstate).trans (congrArg _ (State.rxTake_src (s := u) hstate hcnt))
  · exact (hhdr hstate).trans (congrArg _ (State.rxTake_dst (s := u) hstate hcnt hmagic))
  · exact (hact (by simp [hstate])).trans (congrArg _ (State.rxTake_len (s := u) hstate))
  · exact (hbody hstate).trans (congrArg _ (State.rxTake_payload (s := u) hstate hcnt))
  · exact (hbody hstate).trans (congrArg _ (State.rxTake_crcLow (s := u) hstate hcnt))

/-! ### The end of a read -/

section EndRead

variable {s : State} {r : Nat} {c : Client}

theorem State.endRead_of_bare (howner : s.rx.owner = some r) (hc : s.clients[r]? = some c)
    (hop : c.exOp = none) (e : ReadEnd) :
    s.endRead e = State.bareRead r e { s with rx := { s.rx with state := .idle, owner := none } } := by
  simp [State.endRead, howner, hc, hop]

theorem State.endRead_of_exchange {op : ExOp} (howner : s.rx.owner = some r)
    (hc : s.clients[r]? = some c) (hop : c.exOp = some op) (e : ReadEnd) :
    s.endRead e =
      State.exchangeRead op r c e { s with rx := { s.rx with state := .idle, owner := none } } := by
  simp [State.endRead, howner, hc, hop]

/-- An exchange's round that ends without a reply: REGISTER_QUERY says why, STREAM_POLL that nothing was
appended (47_exchange.md R318, R322). -/
theorem noReplyResult_of_reply {op : ExOp} (hop : op = .registerQuery ∨ op = .streamPoll)
    {why : NoReplyWhy} (hwhy : why ≠ .cancelled) :
    noReplyResult op why = if op = .registerQuery then .noReply why else .appended 0 := by
  obtain rfl | rfl := hop <;> simp [noReplyResult, hwhy]

/-- The end of a command as the claims spell it (47_exchange.md R317). -/
theorem State.endCommand_eq (r : Nat) (res : Result) (s : State) :
    s.endCommand r res = { s with
      token := .free, clients := s.clients.modify r Client.atRest
      results := s.results ++ [(r, res)] } := rfl

end EndRead

/-- Settles O25: the fourth header byte ends the read by `State.rxTake_badMagic`, and the end of a read is
the bare one's result or the end of the exchange. -/
theorem badMagicResynchronizes : Obligations.BadMagicResynchronizes := by
  unfold Obligations.BadMagicResynchronizes
  intro s r c b q hfatal hq hstate hcnt hmagic howner hc ended
  let u : State := State.discard { s with
    rxq := q, crcAcc := crcStep s.rx.acc b
    rx := { s.rx with acc := crcStep s.rx.acc b, dst := b, cnt := 4 } }
  have hact : s.rxByte = u.endRead .resyncTimeout :=
    (State.rxByte_of_pending hfatal (by simp [hstate]) hq).trans
      (State.rxTake_badMagic (s := { s with rxq := q }) hstate hcnt hmagic)
  refine ⟨fun hop => congrArg Host.Outcome.next (hact.trans ?_),
    fun op hop hreply => congrArg Host.Outcome.next (hact.trans ?_)⟩
  · exact State.endRead_of_bare (s := u) howner hc hop _
  · refine (State.endRead_of_exchange (s := u) howner hc hop _).trans ?_
    rw [← noReplyResult_of_reply hreply (by decide)]
    rfl

/-- Settles O29: `timeout(r)` ends the read of `r`. -/
theorem timeoutEndsTheRead : Obligations.TimeoutEndsTheRead := by
  unfold Obligations.TimeoutEndsTheRead
  intro s r c hfatal howner hstate hc
  have htimeout : s.timeout r = s.endRead .timeout := by
    simp [State.timeout, hfatal, howner, hstate]
  refine ⟨fun hop => ⟨_, congrArg Host.Outcome.next (htimeout.trans
    (State.endRead_of_bare howner hc hop _)), ?_, rfl⟩, fun op hop hreply => ?_⟩
  · intro x a n
    cases x <;> rfl
  · refine ⟨_, congrArg Host.Outcome.next (htimeout.trans
      (State.endRead_of_exchange howner hc hop _)), ?_, ?_⟩
    · exact sameBytes_of_modify (f := Client.rest) (r := r) ⟨rfl, rfl, rfl, rfl, rfl, rfl⟩ rfl
        fun _ => ⟨rfl, rfl, rfl⟩
    · rw [← noReplyResult_of_reply hreply (by decide)]
      rfl

end Sys2Proof.Machine
end

section
/-! A whole frame before the receive engine (43_link_manager.md R201 to R206): a byte step short of a frame's
end does not look at what waits behind the byte, so a run of them is the same on a full RXQ and on bytes that
arrive one by one. -/

namespace Sys2Proof.Machine

open Sys2Proof

/-! ### Runs of byte steps -/

/-- The byte `b` takes the read of `s` on to `t`, whatever waits in RXQ behind it. -/
structure State.Goes (b : Byte) (s t : State) : Prop where
  fatal : s.fatal = false
  state : s.rx.state ≠ .idle
  owner : t.rx.owner = s.rx.owner
  takes : ∀ q, State.rxTake b { s with rxq := q } = { t with rxq := q }

/-- The bytes `bs` take the read of `s` on to `t`. -/
def State.Runs : Bytes → State → State → Prop
  | [], s, t => t = s
  | b :: bs, s, t => ∃ u, s.Goes b u ∧ State.Runs bs u t

section Runs

variable {b : Byte} {as bs : Bytes} {s t u : State}

theorem State.Goes.rxByte (h : s.Goes b t) (q : Bytes) :
    State.rxByte { s with rxq := b :: q } = { t with rxq := q } :=
  (State.rxByte_of_pending (s := { s with rxq := b :: q }) h.fatal h.state rfl).trans (h.takes q)

theorem State.Goes.runs (h : s.Goes b t) : State.Runs [b] s t := ⟨t, h, rfl⟩

theorem State.Runs.append (h : State.Runs as s t) (k : State.Runs bs t u) :
    State.Runs (as ++ bs) s u := by
  induction as generalizing s with
  | nil => exact (show t = s from h) ▸ k
  | cons a as ih =>
    obtain ⟨v, ha, has⟩ := h
    exact ⟨v, ha, ih has⟩

theorem State.Runs.rxBytes (h : State.Runs bs s t) (rest : Bytes) :
    State.rxBytes bs.length { s with rxq := bs ++ rest } = { t with rxq := rest } := by
  induction bs generalizing s with
  | nil =>
    obtain rfl : t = s := h
    rfl
  | cons b bs ih =>
    obtain ⟨u, hb, hbs⟩ := h
    have hstep := hb.rxByte (bs ++ rest)
    rw [List.length_cons, State.rxBytes, List.cons_append, hstep]
    exact ih hbs

/-- While the bytes are taken the read stays its owner's. -/
theorem State.Runs.owner (h : State.Runs bs s t) (rest : Bytes) {n : Nat} (hn : n ≤ bs.length) :
    (State.rxBytes n { s with rxq := bs ++ rest }).rx.owner = s.rx.owner := by
  induction n generalizing bs s with
  | zero => rfl
  | succ n ih =>
    cases bs with
    | nil => exact absurd hn (by simp)
    | cons b bs =>
      obtain ⟨u, hb, hbs⟩ := h
      rw [State.rxBytes, List.cons_append, hb.rxByte (bs ++ rest)]
      exact (ih hbs (Nat.le_of_succ_le_succ hn)).trans hb.owner

theorem State.Runs.deliver (h : State.Runs bs s t) :
    State.deliver bs { s with rxq := [] } = { t with rxq := [] } := by
  induction bs generalizing s with
  | nil =>
    obtain rfl : t = s := h
    rfl
  | cons b bs ih =>
    obtain ⟨u, hb, hbs⟩ := h
    have hstep : (State.rxArrive b { s with rxq := [] }).rxByte = { u with rxq := [] } :=
      hb.rxByte []
    rw [show State.deliver (b :: bs) { s with rxq := [] } =
      (State.rxArrive b { s with rxq := [] }).rxByte.deliver bs from rfl, hstep]
    exact ih hbs

theorem State.rxBytes_succ (n : Nat) (s : State) : s.rxBytes (n + 1) = (s.rxBytes n).rxByte := by
  induction n generalizing s with
  | zero => rfl
  | succ n ih => exact ih s.rxByte

end Runs

/-! ### The bytes of a frame -/

theorem extractLsb'_low (x y : Byte) : (x ++ y).extractLsb' 0 8 = y := by
  rw [← BitVec.setWidth_eq_extractLsb' (by decide), BitVec.setWidth_append_eq_right]

/-- The receive engine between the two bytes of a frame's CRC field. -/
def RxEngine.beforeLast (rx : RxEngine) (src dst : Byte) (payload : Bytes) (crc : BitVec 16) :
    RxEngine :=
  { rx with
    state := .body, magic := 0xAB54, src := src, dst := dst, len := BitVec.ofNat 8 payload.length
    payload := payload, crc := rx.crc.extractLsb' 8 8 ++ crc.extractLsb' 0 8
    acc := frameCrc src dst payload
    cnt := BitVec.ofNat 9 (payload.length + 1) }

section Frame

variable {s : State} {r : Nat} {src dst : Byte} {payload : Bytes} {crc : BitVec 16}

/-- The five header bytes (43_link_manager.md R202, R204). -/
theorem State.ReadStarted.runs_header (h : s.ReadStarted r) (n : Nat) :
    State.Runs (frameHeader src dst n) s { s with
      crcAcc := crc16 (frameHeader src dst n)
      rx := { s.rx with
        state := .body, magic := 0xAB54, src := src, dst := dst, len := BitVec.ofNat 8 n, cnt := 0
        acc := crc16 (frameHeader src dst n) } } := by
  obtain ⟨hfatal, hstate, hcnt, -, hacc, -⟩ := h
  let fed (bs : Bytes) : BitVec 16 := bs.foldl crcStep s.rx.acc
  let s1 : State := { s with
    crcAcc := fed [0x54]
    rx := { s.rx with acc := fed [0x54], magic := s.rx.magic.extractLsb' 8 8 ++ 0x54#8, cnt := 1 } }
  let s2 : State := { s with
    crcAcc := fed [0x54, 0xAB]
    rx := { s.rx with acc := fed [0x54, 0xAB], magic := 0xAB54, cnt := 2 } }
  let s3 : State := { s with
    crcAcc := fed [0x54, 0xAB, src]
    rx := { s.rx with acc := fed [0x54, 0xAB, src], magic := 0xAB54, src := src, cnt := 3 } }
  let s4 : State := { s with
    crcAcc := fed [0x54, 0xAB, src, dst]
    rx := { s.rx with
      acc := fed [0x54, 0xAB, src, dst], magic := 0xAB54, src := src, dst := dst, cnt := 4
      state := .len } }
  have hdr : s.rx.state ≠ .idle := by simp [hstate]
  have h1 : s.Goes 0x54 s1 := ⟨hfatal, hdr, rfl, fun q =>
    State.rxTake_magicLow (s := { s with rxq := q }) hstate hcnt⟩
  have h2 : s1.Goes 0xAB s2 := ⟨hfatal, hdr, rfl, fun q => by
    rw [State.rxTake_magicHigh (s := { s1 with rxq := q }) hstate rfl]
    simp only [s1, extractLsb'_low]
    rfl⟩
  have h3 : s2.Goes src s3 := ⟨hfatal, hdr, rfl, fun q =>
    State.rxTake_src (s := { s2 with rxq := q }) hstate rfl⟩
  have h4 : s3.Goes dst s4 := ⟨hfatal, hdr, rfl, fun q =>
    State.rxTake_dst (s := { s3 with rxq := q }) hstate rfl rfl⟩
  have hcrc : fed (frameHeader src dst n) = crc16 (frameHeader src dst n) := by
    simp only [fed, hacc]
    rfl
  let s5 : State := { s with
    crcAcc := fed (frameHeader src dst n)
    rx := { s.rx with
      state := .body, magic := 0xAB54, src := src, dst := dst, len := BitVec.ofNat 8 n, cnt := 0
      acc := fed (frameHeader src dst n) } }
  have h5 : s4.Goes (BitVec.ofNat 8 n) s5 := ⟨hfatal, by simp [s4], rfl, fun q =>
    (State.rxTake_len (s := { s4 with rxq := q }) rfl).trans rfl⟩
  rw [← hcrc]
  exact ⟨s1, h1, s2, h2, s3, h3, s4, h4, s5, h5, rfl⟩

/-- `s` after the payload bytes `bs` (43_link_manager.md R205). -/
def State.tookPayload (bs : Bytes) (s : State) : State :=
  { s with
    crcAcc := bs.foldl crcStep s.rx.acc
    rx := { s.rx with
      acc := bs.foldl crcStep s.rx.acc, payload := s.rx.payload ++ bs
      cnt := s.rx.cnt + BitVec.ofNat 9 bs.length } }

theorem State.tookPayload_nil (h : s.crcAcc = s.rx.acc) : s.tookPayload [] = s := by
  have hcrc : s.tookPayload [] = { s with crcAcc := s.rx.acc } := by simp [State.tookPayload]
  rw [hcrc, ← h]

theorem State.tookPayload_cons (b : Byte) (bs : Bytes) (s : State) :
    (s.tookPayload [b]).tookPayload bs = s.tookPayload (b :: bs) := by
  have hcount : s.rx.cnt + BitVec.ofNat 9 [b].length + BitVec.ofNat 9 bs.length =
      s.rx.cnt + BitVec.ofNat 9 (b :: bs).length := by
    rw [BitVec.add_assoc, ← BitVec.ofNat_add, Nat.add_comm]
    rfl
  simp only [State.tookPayload, hcount, List.append_assoc, List.singleton_append, List.foldl_cons,
    List.foldl_nil]

theorem State.runs_payload {s : State} (hfatal : s.fatal = false) (hstate : s.rx.state = .body)
    (hacc : s.crcAcc = s.rx.acc) {bs : Bytes}
    (hl : s.rx.cnt.toNat + bs.length ≤ s.rx.len.toNat) : State.Runs bs s (s.tookPayload bs) := by
  induction bs generalizing s with
  | nil => exact State.tookPayload_nil hacc
  | cons b bs ih =>
    have hlen : s.rx.len.toNat < 256 := s.rx.len.isLt
    rw [List.length_cons] at hl
    have hcnt : (s.tookPayload [b]).rx.cnt.toNat = s.rx.cnt.toNat + 1 :=
      (BitVec.toNat_add _ _).trans (Nat.mod_eq_of_lt (show s.rx.cnt.toNat + 1 < 512 by omega))
    have hgoes : s.Goes b (s.tookPayload [b]) := ⟨hfatal, by simp [hstate], rfl, fun q =>
      State.rxTake_payload (s := { s with rxq := q }) hstate (show s.rx.cnt.toNat < s.rx.len.toNat by omega)⟩
    have hl' : (s.tookPayload [b]).rx.cnt.toNat + bs.length ≤ (s.tookPayload [b]).rx.len.toNat := by
      rw [hcnt]
      exact (Nat.add_right_comm _ _ _).trans_le hl
    exact ⟨_, hgoes, State.tookPayload_cons b bs s ▸ ih hfatal hstate rfl hl'⟩

/-- All bytes of a frame but the last. -/
theorem State.ReadStarted.runs_frame (h : s.ReadStarted r) (hl : payload.length ≤ 255) :
    State.Runs (frameHeader src dst payload.length ++ payload ++ [crc.extractLsb' 0 8]) s { s with
      crcAcc := frameCrc src dst payload, rx := s.rx.beforeLast src dst payload crc } := by
  have ⟨hfatal, _, _, hpayload, _, _⟩ := h
  have hlen : (BitVec.ofNat 8 payload.length).toNat = payload.length :=
    Nat.mod_eq_of_lt (Nat.lt_succ_of_le hl)
  have hcnt : (0 + BitVec.ofNat 9 payload.length : BitVec 9) = BitVec.ofNat 9 payload.length :=
    BitVec.zero_add _
  have hcnt' : (BitVec.ofNat 9 payload.length).toNat = payload.length :=
    Nat.mod_eq_of_lt (show payload.length < 512 by omega)
  let u : State := { s with
    crcAcc := crc16 (frameHeader src dst payload.length)
    rx := { s.rx with
      state := .body, magic := 0xAB54, src := src, dst := dst, len := BitVec.ofNat 8 payload.length
      cnt := 0, acc := crc16 (frameHeader src dst payload.length) } }
  have hheader : State.Runs _ s u := h.runs_header payload.length
  have hbody : State.Runs payload u (u.tookPayload payload) :=
    State.runs_payload (s := u) hfatal rfl rfl ((Nat.zero_add _).trans hlen.symm).le
  refine (hheader.append hbody).append (State.Goes.runs ⟨hfatal, by simp [u, State.tookPayload], rfl,
    fun q => ?_⟩)
  rw [State.rxTake_crcLow (s := { u.tookPayload payload with rxq := q }) rfl
    (by simp only [u, State.tookPayload, hcnt, hcnt', hlen])]
  simp only [u, State.tookPayload, hcnt, hpayload, List.nil_append, RxEngine.beforeLast, frameCrc,
    crc16_append, BitVec.ofNat_add]
  rfl

theorem wireFrame_eq_concat :
    wireFrame src dst payload crc =
      frameHeader src dst payload.length ++ payload ++ [crc.extractLsb' 0 8] ++
        [crc.extractLsb' 8 8] := by
  simp [wireFrame]

theorem length_frame_init :
    (frameHeader src dst payload.length ++ payload ++ [crc.extractLsb' 0 8]).length =
      6 + payload.length := by
  simp [frameHeader]
  omega

/-- The last byte of a frame hands it to the completion, with every field in place. -/
theorem State.rxByte_last (hfatal : s.fatal = false) (hl : payload.length ≤ 255) (rest : Bytes) :
    State.rxByte { s with
      rxq := crc.extractLsb' 8 8 :: rest, crcAcc := frameCrc src dst payload
      rx := s.rx.beforeLast src dst payload crc } =
    State.rxComplete { s with
      rxq := rest, crcAcc := frameCrc src dst payload
      rx := { s.rx.afterFrame src dst payload crc with state := .body, owner := s.rx.owner } } := by
  have hlen : (BitVec.ofNat 8 payload.length).toNat = payload.length :=
    Nat.mod_eq_of_lt (Nat.lt_succ_of_le hl)
  have hcnt : (BitVec.ofNat 9 (payload.length + 1)).toNat = payload.length + 1 :=
    Nat.mod_eq_of_lt (show payload.length + 1 < 512 by omega)
  have hcrc : (crc.extractLsb' 8 8 ++
      (s.rx.crc.extractLsb' 8 8 ++ crc.extractLsb' 0 8).extractLsb' 0 8 : BitVec 16) = crc := by
    rw [extractLsb'_low]
    exact le16_extractLsb' crc
  have hcount : BitVec.ofNat 9 (payload.length + 1) + 1 = BitVec.ofNat 9 (payload.length + 2) := by
    rw [BitVec.ofNat_add _ 2, BitVec.ofNat_add _ 1, BitVec.add_assoc]
    rfl
  let u : State := { s with
    rxq := crc.extractLsb' 8 8 :: rest, crcAcc := frameCrc src dst payload
    rx := s.rx.beforeLast src dst payload crc }
  have hpop : u.rxByte = State.rxTake (crc.extractLsb' 8 8) { u with rxq := rest } :=
    State.rxByte_of_pending hfatal (by simp [u, RxEngine.beforeLast]) rfl
  refine hpop.trans ((State.rxTake_crcHigh (s := { u with rxq := rest }) rfl ?_).trans ?_)
  · simp only [u, RxEngine.beforeLast, hlen, hcnt]
    omega
  · simp only [u, RxEngine.beforeLast, RxEngine.afterFrame, hcrc, hcount]

theorem rxq_eq_init_last {rest : Bytes} (hq : s.rxq = wireFrame src dst payload crc ++ rest) :
    s = { s with rxq := frameHeader src dst payload.length ++ payload ++
      [crc.extractLsb' 0 8] ++ (crc.extractLsb' 8 8 :: rest) } := by
  have hbytes : s.rxq = frameHeader src dst payload.length ++ payload ++
      [crc.extractLsb' 0 8] ++ (crc.extractLsb' 8 8 :: rest) := by
    rw [hq, wireFrame_eq_concat, List.append_assoc _ [crc.extractLsb' 8 8]]
    rfl
  rw [← hbytes]

/-- A read that has just started takes a whole frame in `7 + L` byte steps (70_reset_and_hazards.md R411). -/
theorem State.ReadStarted.rxBytes_frame (h : s.ReadStarted r) (hl : payload.length ≤ 255)
    {rest : Bytes} (hq : s.rxq = wireFrame src dst payload crc ++ rest) :
    s.rxBytes (7 + payload.length) = State.rxComplete { s with
      rxq := rest, crcAcc := frameCrc src dst payload
      rx := { s.rx.afterFrame src dst payload crc with state := .body, owner := s.rx.owner } } := by
  have hs := rxq_eq_init_last hq
  have hinit := (h.runs_frame (src := src) (dst := dst) (crc := crc) hl).rxBytes
    (crc.extractLsb' 8 8 :: rest)
  rw [length_frame_init, ← hs] at hinit
  rw [show 7 + payload.length = 6 + payload.length + 1 by omega, State.rxBytes_succ, hinit]
  exact State.rxByte_last h.1 hl rest

/-- The same for a frame that arrives byte by byte on an empty RXQ (log 7). -/
theorem State.ReadStarted.deliver_frame (h : s.ReadStarted r) (hl : payload.length ≤ 255)
    (hq : s.rxq = []) :
    s.deliver (wireFrame src dst payload crc) = State.rxComplete { s with
      rxq := [], crcAcc := frameCrc src dst payload
      rx := { s.rx.afterFrame src dst payload crc with state := .body, owner := s.rx.owner } } := by
  have hs : s = { s with rxq := [] } := by rw [← hq]
  have hinit := (h.runs_frame (src := src) (dst := dst) (crc := crc) hl).deliver
  rw [← hs] at hinit
  rw [wireFrame_eq_concat, State.deliver_append, hinit]
  exact State.rxByte_last h.1 hl []

end Frame

/-- Settles O27: without a read delivered bytes wait (`State.deliver_waits`), with one at a frame start both
ways end in the same completion. -/
theorem frameIsDelivered : Obligations.FrameIsDelivered := by
  unfold Obligations.FrameIsDelivered
  intro src dst payload crc s hl
  refine ⟨fun hwait => ⟨_, congrArg Host.Outcome.next (State.deliver_waits hwait _), rfl, ?_⟩,
    fun r c h hc hop hq => congrArg Host.Outcome.next ?_⟩
  · intro x hx a n
    cases x with
    | rxq => exact absurd rfl hx
    | _ => rfl
  · have hfull : State.ReadStarted { s with rxq := wireFrame src dst payload crc } r := h
    exact (h.deliver_frame hl hq).trans
      (hfull.rxBytes_frame hl (List.append_nil _).symm).symm

/-! ### Completion -/

section Complete

variable {s : State} {r : Nat} {c : Client} {src dst : Byte} {payload : Bytes} {crc : BitVec 16}

/-- CRC_OK and its event, judged on the read's own remainder (43_link_manager.md R206 step 1). -/
def State.judged (acc crc : BitVec 16) (s : State) : State :=
  { s with
    crcOk := decide (acc = crc)
    events := s.events ++ (if acc = crc then [] else [.crcBad]) }

theorem State.rxComplete_eq (s : State) :
    s.rxComplete =
      if s.rx.acc ≠ s.rx.crc ∧ s.crcEnforce = true then
        (s.judged s.rx.acc s.rx.crc).discard.endRead .resyncTimeout
      else if s.rx.stray then (s.judged s.rx.acc s.rx.crc).endRead .noData
      else (s.judged s.rx.acc s.rx.crc).endRead
        (.frame (s.rx.staged (decide (s.rx.acc = s.rx.crc)))) := by
  have hjudged : (State.emit (if crcMatches s.rx.acc s.rx.crc then [] else [.crcBad])
      { s with crcOk := crcMatches s.rx.acc s.rx.crc }) = s.judged s.rx.acc s.rx.crc := by
    simp only [State.emit, State.judged, crcMatches, decide_eq_true_eq]
  have henforced : (s.crcEnforce && !crcMatches s.rx.acc s.rx.crc) = true ↔
      s.rx.acc ≠ s.rx.crc ∧ s.crcEnforce = true := by
    rw [Bool.and_eq_true, Bool.not_eq_true', crcMatches, decide_eq_false_iff_not, and_comm]
  rw [← hjudged]
  exact if_congr henforced rfl rfl

/-- The source filter compares 7 bits (43_link_manager.md R207). -/
theorem RxEngine.stray_eq_false_iff (rx : RxEngine) :
    rx.stray = false ↔ rx.filter = none ∨ rx.filter = some (rx.src.setWidth 7) := by
  unfold RxEngine.stray
  cases rx.filter with
  | none => simp
  | some f =>
    rw [decide_eq_false_iff_not, not_not, Option.some_inj]
    exact ⟨fun h => .inr h.symm, fun h => (h.resolve_left (by simp)).symm⟩

/-- `s` with its read over, the registers of the engine as they are. -/
def State.readClosed (s : State) : State := { s with rx := { s.rx with state := .idle, owner := none } }

/-- What the end of a read means to its owner `r`, whose registers are `c` (43_link_manager.md R211,
47_exchange.md R321). -/
def State.finishRead (r : Nat) (c : Client) (e : ReadEnd) (s : State) : State :=
  match c.exOp with
  | none => s.bareRead r e
  | some op => s.exchangeRead op r c e

theorem State.endRead_eq (howner : s.rx.owner = some r) (hc : s.clients[r]? = some c) (e : ReadEnd) :
    s.endRead e = s.readClosed.finishRead r c e := by
  cases hop : c.exOp with
  | none => simp only [State.endRead, howner, hc, State.readClosed, State.finishRead, hop]
  | some op => simp only [State.endRead, howner, hc, State.readClosed, State.finishRead, hop]

/-- `s` after its read has taken a whole frame and is over, `rest` being left in RXQ. -/
def State.tookFrame (src dst : Byte) (payload : Bytes) (crc : BitVec 16) (rest : Bytes) (s : State) :
    State :=
  { s with
    rxq := rest, crcAcc := frameCrc src dst payload, rx := s.rx.afterFrame src dst payload crc
    crcOk := decide (frameCrc src dst payload = crc)
    events := s.events ++ (if frameCrc src dst payload = crc then [] else [.crcBad]) }

/-- How a whole frame ends the read: the CRC is judged first, then the source filter
(43_link_manager.md R206). -/
def State.endOfFrame (src dst : Byte) (payload : Bytes) (crc : BitVec 16) (rest : Bytes) (r : Nat)
    (c : Client) (s : State) : State :=
  let t := s.tookFrame src dst payload crc rest
  if frameCrc src dst payload ≠ crc ∧ s.crcEnforce = true then t.discard.finishRead r c .resyncTimeout
  else if s.rx.filter = none ∨ s.rx.filter = some (src.setWidth 7) then
    t.finishRead r c (.frame (reportedFrame src dst payload crc))
  else t.finishRead r c .noData

theorem State.rxComplete_frame (howner : s.rx.owner = some r) (hc : s.clients[r]? = some c)
    (rest : Bytes) :
    State.rxComplete { s with
      rxq := rest, crcAcc := frameCrc src dst payload
      rx := { s.rx.afterFrame src dst payload crc with state := .body, owner := s.rx.owner } } =
    s.endOfFrame src dst payload crc rest r c := by
  let w : State := { s with
    rxq := rest, crcAcc := frameCrc src dst payload
    rx := { s.rx.afterFrame src dst payload crc with state := .body, owner := s.rx.owner } }
  let v : State := w.judged (frameCrc src dst payload) crc
  have hv : v.readClosed = s.tookFrame src dst payload crc rest := rfl
  have hd : v.discard.readClosed = (s.tookFrame src dst payload crc rest).discard := rfl
  have hvend (e : ReadEnd) := State.endRead_eq (s := v) howner hc e
  have hdend (e : ReadEnd) := State.endRead_eq (s := v.discard) howner hc e
  rw [hv] at hvend
  rw [hd] at hdend
  have hw : w.rxComplete =
      if frameCrc src dst payload ≠ crc ∧ s.crcEnforce = true then v.discard.endRead .resyncTimeout
      else if w.rx.stray then v.endRead .noData
      else v.endRead (.frame (reportedFrame src dst payload crc)) := w.rxComplete_eq
  have hstray : w.rx.stray = true ↔
      ¬ (s.rx.filter = none ∨ s.rx.filter = some (src.setWidth 7)) := by
    rw [← Bool.not_eq_false, not_iff_not]
    exact w.rx.stray_eq_false_iff
  rw [hvend, hvend, hdend] at hw
  refine hw.trans (if_congr Iff.rfl rfl ((if_congr hstray rfl rfl).trans ?_))
  exact ite_not _ _ _

/-- A whole frame before a read, with `rest` behind it (43_link_manager.md R201 to R206). -/
theorem State.ReadStarted.rxBytes_eq (h : s.ReadStarted r) (hc : s.clients[r]? = some c)
    (hl : payload.length ≤ 255) {rest : Bytes} (hq : s.rxq = wireFrame src dst payload crc ++ rest) :
    s.rxBytes (7 + payload.length) = s.endOfFrame src dst payload crc rest r c := by
  have ⟨_, _, _, _, _, howner⟩ := h
  exact (h.rxBytes_frame hl hq).trans (State.rxComplete_frame howner hc rest)

/-- A whole frame that arrives on an empty RXQ (log 7). -/
theorem State.ReadStarted.deliver_eq (h : s.ReadStarted r) (hc : s.clients[r]? = some c)
    (hl : payload.length ≤ 255) (hq : s.rxq = []) :
    s.deliver (wireFrame src dst payload crc) = s.endOfFrame src dst payload crc [] r c := by
  have ⟨_, _, _, _, _, howner⟩ := h
  exact (h.deliver_frame hl hq).trans (State.rxComplete_frame howner hc [])

end Complete

/-- Settles O26: `State.ReadStarted.rxBytes_eq` says how the frame ends the read, `State.Runs.owner` that it is
pending until then. -/
theorem wholeFrameIsReceived : Obligations.WholeFrameIsReceived := by
  unfold Obligations.WholeFrameIsReceived
  intro s r c src dst payload crc rest h hc hl hq acc taken discarded
  have ⟨_, _, _, _, _, howner⟩ := h
  have hbytes := h.rxBytes_eq hc hl hq
  have hdiscard (hne : acc ≠ crc) :
      (s.tookFrame src dst payload crc rest).discard = discarded := by
    simp only [State.discard, State.tookFrame, State.emit, if_neg hne, List.append_assoc, discarded,
      taken, acc]
    rfl
  refine ⟨fun n hn => ?pending, fun hop => ?bare, fun op hop hreply hcrc henforce => ?exchange⟩
  case pending =>
    have hs := rxq_eq_init_last hq
    have hkept := (h.runs_frame (src := src) (dst := dst) (crc := crc) hl).owner
      (crc.extractLsb' 8 8 :: rest) (n := n) (by rw [length_frame_init]; omega)
    rw [← hs] at hkept
    exact hkept.trans howner
  case bare =>
    have hfinish (e : ReadEnd) (t : State) : t.finishRead r c e = t.bareRead r e := by
      simp only [State.finishRead, hop]
    simp only [State.endOfFrame, hfinish] at hbytes
    rw [hbytes]
    refine if_ctx_congr Iff.rfl (fun hne => ?_) fun _ => ?_
    · rw [hdiscard hne.1]
      rfl
    · by_cases hfilter : s.rx.filter = none ∨ s.rx.filter = some (src.setWidth 7)
      · rw [if_pos hfilter, if_pos hfilter]
        rfl
      · rw [if_neg hfilter, if_neg hfilter]
        rfl
  case exchange =>
    rw [hbytes, State.endOfFrame, if_pos ⟨hcrc, henforce⟩, hdiscard hcrc]
    simp only [State.finishRead, hop, State.exchangeRead]
    rw [noReplyResult_of_reply hreply (by decide)]
    rfl

/-- Settles O50: the filter turns the frame away, and the read is issued again in the same step. -/
theorem strayFrameIsSkipped : Obligations.StrayFrameIsSkipped := by
  unfold Obligations.StrayFrameIsSkipped
  intro s r c op src dst payload rest crc h hc hop hfilter hsrc hl hq hcrc t
  have hnotEnforced : ¬ (frameCrc src dst payload ≠ crc ∧ s.crcEnforce = true) := by
    rintro ⟨hne, henforce⟩
    exact hcrc.elim (fun hno => absurd (henforce.symm.trans hno) (by decide)) hne
  have hstray : ¬ (s.rx.filter = none ∨ s.rx.filter = some (src.setWidth 7)) := by
    rw [hfilter]
    simpa using hsrc.symm
  have ht : t = (s.tookFrame src dst payload crc rest).acceptRead r (some c.destId) := by
    rw [show t = s.rxBytes (7 + payload.length) from rfl, h.rxBytes_eq hc hl hq, State.endOfFrame,
      if_neg hnotEnforced, if_neg hstray]
    simp only [State.finishRead, hop, State.exchangeRead]
  rw [ht]
  exact ⟨⟨h.1, rfl, rfl, rfl, rfl, rfl⟩, rfl, rfl, rfl, rfl, rfl⟩

end Sys2Proof.Machine
end

section
/-! Statements about one instruction or one event: its next state by the equation of the operation it runs. -/

namespace Sys2Proof.Machine

open Sys2Proof

/-! ### Encoding and the step -/

/-- Settles O1: each word is decoded by evaluation. -/
theorem decodingIsRight : Obligations.DecodingIsRight := by
  unfold Obligations.DecodingIsRight
  decide

/-- Settles O6: the next listed stimulus is taken, and its port runs what the decoder reads there. -/
theorem stepRunsTheDecodedInstruction : Obligations.StepRunsTheDecodedInstruction := by
  unfold Obligations.StepRunsTheDecodedInstruction
  refine ⟨fun s r bs rest i hin hd => ?command, fun s r bs rest i rd hin hl hd => ?subframe,
    fun s bs rest i hin hd => ?frame⟩
  case command =>
    have hd : decodeCommand bs = .ok i := hd
    simp only [step, hin, State.act, State.runCommand, hd]
  case subframe =>
    simp only [step, hin, State.act, State.runSubframe, Config.lenMax, if_neg (Nat.not_lt.mpr hl), hd]
  case frame =>
    have hd : decodeFrame bs = .ok i := hd
    simp only [step, hin, State.act, State.runFrame, hd]

/-! ### The token and the link commands -/

section Commands

variable {s : State}

theorem State.faulted_of_canIssue (h : s.CanIssue) (c : Cause) :
    s.raise c s.issuer = s.faulted c c.code :=
  State.raise_eq_faulted c h.2.1

/-- LOCK_ACQUIRE runs its body (43_link_manager.md R190 step 1). -/
theorem exec_lockAcquire (h : s.CanIssue) : exec .lockAcquire s = .next (s.requestToken none s.issuer) := by
  obtain ⟨_, -, he⟩ := onCommand_of_canIssue h fun r _ => s.requestToken none r
  exact he

theorem State.requestToken_of_holder (h : s.CanIssue) (htoken : s.token = .held s.issuer)
    (op : Option ExOp) : s.requestToken op s.issuer = s.faulted .lockMisuse 4 :=
  (if_pos htoken).trans (State.faulted_of_canIssue h _)

theorem State.requestToken_of_other {r : Nat} (htoken : s.token ≠ .held r) (op : Option ExOp) :
    s.requestToken op r = { s with
      waiters := waitersInsert r s.waiters
      clients := s.clients.modify r fun c => { c with exOp := op } } :=
  if_neg htoken

/-- A change of `r` is what it makes of the registers of `r`. -/
theorem modify_congr {cs : List Client} {r : Nat} {c : Client} {f g : Client → Client}
    (hc : cs[r]? = some c) (h : f c = g c) : cs.modify r f = cs.modify r g := by
  refine List.ext_getElem? fun q => ?_
  rw [List.getElem?_modify, List.getElem?_modify]
  by_cases hr : r = q
  · subst hr
    simp [hc, h]
  · simp [hr]

theorem modify_eq_self {cs : List Client} {r : Nat} {c : Client} {f : Client → Client}
    (hc : cs[r]? = some c) (h : f c = c) : cs.modify r f = cs :=
  (modify_congr (g := id) hc h).trans (List.modify_id r cs)

/-- A bare LOCK_ACQUIRE latches no exchange, so the requester's registers stay. -/
theorem State.modify_exOp_none (h : s.CanIssue) :
    (s.clients.modify s.issuer fun c => { c with exOp := none }) = s.clients := by
  obtain ⟨c, hc, -⟩ := onCommand_of_canIssue h fun _ _ => s
  have ⟨_, _, _, _, _, hop⟩ := h
  exact modify_eq_self hc (by rw [← hop c hc])

/-- Settles O15: the two sides of the request for the token. -/
theorem lockAcquireAsks : Obligations.LockAcquireAsks := by
  unfold Obligations.LockAcquireAsks
  intro s h
  refine ⟨fun htoken => ?other, fun htoken => ?holder⟩
  case other =>
    have hask := State.requestToken_of_other htoken none
    rw [State.modify_exOp_none h] at hask
    refine ⟨_, (exec_lockAcquire h).trans (congrArg _ hask), rfl,
      fun q => mem_waitersInsert q _ _, ?_⟩
    intro x a n
    cases x <;> rfl
  case holder =>
    exact ⟨_, (exec_lockAcquire h).trans (congrArg _ (State.requestToken_of_holder h htoken _)), rfl,
      sameBytes_faulted s _ _⟩

/-- Settles O19: the two sides of LM_DRAIN. -/
theorem lmDrainSwapsTheBuffer : Obligations.LmDrainSwapsTheBuffer := by
  unfold Obligations.LmDrainSwapsTheBuffer
  intro s h
  obtain ⟨_, -, he⟩ := onCommand_of_canIssue h fun r _ =>
    if s.token = .held r then s.startDrain r else s.raise .noToken r
  refine ⟨fun htoken => ⟨_, he.trans (congrArg _ (if_pos htoken)), rfl, ?_⟩,
    fun htoken => ⟨_, he.trans (congrArg _ ((if_neg htoken).trans (State.faulted_of_canIssue h _))),
      rfl, sameBytes_faulted s _ _⟩⟩
  intro x hx hx' a n
  cases x with
  | txbuf => exact absurd rfl hx
  | txflight => exact absurd rfl hx'
  | _ => rfl

/-- A change of the receive engine and CRC_ACC is seen in RX_PAYLOAD alone. -/
theorem sameBytesBut_rx (s : State) (rx : RxEngine) (crcAcc : BitVec 16) :
    SameBytesBut .rxPayload s { s with rx := rx, crcAcc := crcAcc } := by
  intro x hx a n
  cases x with
  | rxPayload => exact absurd rfl hx
  | _ => rfl

/-- Settles O23: the two sides of LM_READ_FRAME. -/
theorem lmReadFrameStartsTheRead : Obligations.LmReadFrameStartsTheRead := by
  unfold Obligations.LmReadFrameStartsTheRead
  intro onlyFrom s h
  obtain ⟨_, -, he⟩ := onCommand_of_canIssue h fun r _ =>
    if s.token = .held r then s.acceptRead r onlyFrom else s.raise .noToken r
  exact ⟨fun htoken => ⟨_, he.trans (congrArg _ (if_pos htoken)), rfl, sameBytesBut_rx s _ _⟩,
    fun htoken => ⟨_, he.trans (congrArg _ ((if_neg htoken).trans (State.faulted_of_canIssue h _))),
      rfl, sameBytes_faulted s _ _⟩⟩

/-! ### Drains and cancels -/

theorem cancelResult_eq (op : Option ExOp) :
    cancelResult op = if op = some .registerQuery then .noReply .cancelled else .cancelled := by
  cases op with
  | none => rfl
  | some op => cases op <;> rfl

/-- Settles O21: `tx_flushed` runs what follows the drain, case by case. -/
theorem drainCompletesOnFlush : Obligations.DrainCompletesOnFlush := by
  unfold Obligations.DrainCompletesOnFlush
  intro s r c hfatal hdrs howner hc
  let u : State := { s with drs := .idle, drOwner := none }
  have hflush : s.txFlushed = u.drained r c := by
    simp [State.txFlushed, hfatal, hdrs, howner, hc, u]
  refine ⟨fun hcan => ?cancelled, fun hcan => ⟨fun hop => ?bare, fun hop => ?sent, fun hop => ?reply⟩⟩
  case cancelled =>
    have hd : u.drained r c = u.endCommand r (cancelResult c.exOp) := if_pos hcan
    rw [cancelResult_eq] at hd
    refine ⟨_, congrArg Host.Outcome.next (hflush.trans hd), ?_, rfl⟩
    exact sameBytes_of_modify (f := Client.rest) (r := r) ⟨rfl, rfl, rfl, rfl, rfl, rfl⟩ rfl
      fun _ => ⟨rfl, rfl, rfl⟩
  case bare =>
    have hd : u.drained r c = u.ret r .done := by simp [State.drained, hcan, hop]
    refine ⟨_, congrArg Host.Outcome.next (hflush.trans hd), ?_, rfl⟩
    intro x a n
    cases x <;> rfl
  case sent =>
    have hd : u.drained r c = u.modClient r fun c => { c with exs := .sent } := by
      obtain hop | hop := hop <;> simp [State.drained, hcan, hop, ExOp.hasReply]
    refine ⟨_, congrArg Host.Outcome.next (hflush.trans hd), ?_, rfl⟩
    exact sameBytes_of_modify (r := r) ⟨rfl, rfl, rfl, rfl, rfl, rfl⟩ rfl fun _ => ⟨rfl, rfl, rfl⟩
  case reply =>
    have hd : u.drained r c =
        (u.modClient r fun c => { c with exs := .await }).acceptRead r (some c.destId) := by
      obtain hop | hop := hop <;> simp [State.drained, hcan, hop, ExOp.hasReply]
    refine ⟨_, congrArg Host.Outcome.next (hflush.trans hd), fun x hx a n => ?_, rfl⟩
    have hclients : SameBytes u (u.modClient r fun c => { c with exs := .await }) :=
      sameBytes_of_modify (r := r) ⟨rfl, rfl, rfl, rfl, rfl, rfl⟩ rfl fun _ => ⟨rfl, rfl, rfl⟩
    have hu : u.memRead x a n = s.memRead x a n := by cases x <;> rfl
    exact (sameBytesBut_rx _ _ _ x hx a n).trans ((hclients x a n).trans hu)

/-- Settles O30: the clauses of `cancel(r)`, in its order. -/
theorem cancelAbandonsTheCommand : Obligations.CancelAbandonsTheCommand := by
  unfold Obligations.CancelAbandonsTheCommand
  intro s r c hfatal hc res
  have hres : cancelResult c.exOp = res := cancelResult_eq c.exOp
  have rest_sameBytes {t : State} (ht : t = s.endCommand r res) : SameBytes s t := ht ▸
    sameBytes_of_modify (f := Client.rest) (r := r) ⟨rfl, rfl, rfl, rfl, rfl, rfl⟩ rfl
      fun _ => ⟨rfl, rfl, rfl⟩
  have mark_sameBytes : SameBytes s (s.modClient r fun c => { c with cancelled := true }) :=
    sameBytes_of_modify (r := r) ⟨rfl, rfl, rfl, rfl, rfl, rfl⟩ rfl fun _ => ⟨rfl, rfl, rfl⟩
  have hended (hx : c.exs = .sent ∨ c.exs = .decoded) (hw : r ∉ s.waiters) (hdrs : s.drs = .idle)
      (hstate : s.rx.state = .idle) :
      s.cancel r = (s.modClient r Client.takeBack).endCommand r res := by
    obtain hx | hx := hx <;> simp [State.cancel, hfatal, hc, hw, hdrs, hstate, hx, hres]
  refine ⟨fun hw => ?wait, fun hw howner hdrs => ?drain, fun hw hdrs howner hstate => ?read,
    fun hw hdrs hstate => ⟨fun hx => ?token, fun hx => ⟨fun hout => ?ends, fun n hout => ?poll⟩⟩⟩
  case wait =>
    have hcancel : s.cancel r =
        (State.modClient r Client.rest { s with waiters := waitersErase r s.waiters }).ret r res := by
      simp [State.cancel, hfatal, hc, hw, hres]
    refine ⟨_, congrArg Host.Outcome.next hcancel, ?_, fun q => mem_waitersErase q r _, rfl⟩
    exact sameBytes_of_modify (f := Client.rest) (r := r) ⟨rfl, rfl, rfl, rfl, rfl, rfl⟩ rfl
      fun _ => ⟨rfl, rfl, rfl⟩
  case drain =>
    have hcancel : s.cancel r = s.modClient r fun c => { c with cancelled := true } := by
      simp [State.cancel, hfatal, hc, hw, howner, hdrs]
    exact ⟨_, congrArg Host.Outcome.next hcancel, mark_sameBytes, rfl⟩
  case read =>
    have hcancel : s.cancel r = s.readClosed.endCommand r res := by
      have hend : s.cancel r = s.endRead .cancelled := by
        simp [State.cancel, hfatal, hc, hw, hdrs, howner, hstate]
      rw [hend, State.endRead_eq howner hc, State.finishRead, ← hres]
      cases c.exOp <;> rfl
    refine ⟨_, congrArg Host.Outcome.next hcancel, ?_, rfl⟩
    exact sameBytes_of_modify (f := Client.rest) (r := r) ⟨rfl, rfl, rfl, rfl, rfl, rfl⟩ rfl
      fun _ => ⟨rfl, rfl, rfl⟩
  case token =>
    have hcancel : s.cancel r = s.modClient r fun c => { c with cancelled := true } := by
      simp [State.cancel, hfatal, hc, hw, hdrs, hstate, hx]
    exact ⟨_, congrArg Host.Outcome.next hcancel, mark_sameBytes, rfl⟩
  case ends =>
    have hback : c.takeBack = c := by
      unfold Client.takeBack
      split
      · exact absurd ‹_› (hout _)
      · rfl
    have hclients : s.modClient r Client.takeBack = s := by
      rw [State.modClient, modify_eq_self hc hback]
    have hcancel := hended hx hw hdrs hstate
    rw [hclients] at hcancel
    exact ⟨_, congrArg Host.Outcome.next hcancel, rest_sameBytes rfl, rfl⟩
  case poll =>
    let f : Client → Client := fun c => { c.atRest with rdbuf := c.rdbuf.take (c.rdbuf.length - n) }
    have hclients : (s.clients.modify r Client.takeBack).modify r Client.rest =
        s.clients.modify r f := by
      rw [List.modify_modify_eq]
      exact modify_congr hc (by simp [Client.takeBack, hout, Client.rest, f, Client.atRest])
    have hcancel : s.cancel r = { s with
        token := .free, clients := s.clients.modify r f, results := s.results ++ [(r, res)] } := by
      rw [hended hx hw hdrs hstate, ← hclients]
      rfl
    have hbytes := sameBytesBut_issuerWith (y := .rdbuf r) { s with issuer := r } f
      (fun _ _ => rfl) (fun _ _ => rfl) fun h => absurd rfl h
    refine ⟨_, congrArg Host.Outcome.next hcancel, fun x hx a n => ?_, rfl⟩
    exact Eq.trans (by cases x <;> rfl) ((hbytes x hx a n).trans (by cases x <;> rfl))

/-! ### The register encoder and the reply decoder -/

/-- WRITE_MULTIPLE that breaks a precondition raises its fault and appends nothing
(44_register_encoder.md R251, R252). -/
theorem onCommand_appendWriteMultiple_fault (h : s.CanIssue) {start : U32} {t : TypeTag}
    {vals : List TV} {c : Cause} (hfault : writeMultipleFault vals = some c) :
    onCommand s (fun r _ => s.appendWriteMultiple t start vals r) =
      .next (s.faulted c c.code) := by
  obtain ⟨_, -, he⟩ := onCommand_of_canIssue h fun r _ => s.appendWriteMultiple t start vals r
  refine he.trans (congrArg _ (Eq.trans ?_ (State.faulted_of_canIssue h c)))
  simp only [State.appendWriteMultiple, hfault]

theorem writeMultipleFault_of_mixed {vals : List TV}
    (h : ∃ v ∈ vals, ∃ w ∈ vals, v.tag ≠ w.tag) : writeMultipleFault vals = some .mixedTypes := by
  obtain ⟨v, hv, w, hw, hne⟩ := h
  cases vals with
  | nil => cases hv
  | cons u us =>
    refine if_neg fun hall => hne ?_
    have htag (x : TV) (hx : x ∈ u :: us) : x.tag = u.tag := by
      obtain rfl | hx := List.mem_cons.mp hx
      · rfl
      · exact of_decide_eq_true (List.all_eq_true.mp hall x hx)
    rw [htag v hv, htag w hw]

/-- Settles O35: each row's values break a precondition of `writeMultipleFault`. -/
theorem writeMultipleFaults : Obligations.WriteMultipleFaults := by
  unfold Obligations.WriteMultipleFaults
  intro start s h
  have empty (t : TypeTag) : onCommand s (fun r _ => s.appendWriteMultiple t start [] r) =
      .next (s.faulted .emptyWrite 6) := onCommand_appendWriteMultiple_fault h rfl
  exact ⟨empty .int8, empty .int8, empty .int16, empty .int32, empty .float,
    fun vals hmixed => onCommand_appendWriteMultiple_fault h (writeMultipleFault_of_mixed hmixed),
    sameBytes_faulted s _ _, sameBytes_faulted s _ _⟩

/-- REPLY is no byte space (10_state.md R36). -/
theorem sameBytes_reply (s : State) (m : ReplyMap) : SameBytes s { s with reply := m } := by
  intro x a n
  cases x <;> rfl

/-- A reply sub-frame run by itself puts its entries into REPLY (log 6). -/
theorem onCommand_takeReply (h : s.CanIssue) {i : Instr} (hwhole : replyShort i = false) :
    onCommand s (fun r _ => s.takeReply i r) =
      .next { s with reply := ReplyMap.insertAll (replyEntries i) s.reply } := by
  obtain ⟨_, -, he⟩ := onCommand_of_canIssue h fun r _ => s.takeReply i r
  rw [he, State.takeReply, hwhole]
  rfl

/-- Settles O37: each of the six sub-frames carries one entry, and is never cut short. -/
theorem replyEntryIsInserted : Obligations.ReplyEntryIsInserted := by
  unfold Obligations.ReplyEntryIsInserted
  intro reg code b8 b16 b32 s h i e hi
  have one {i : Instr} {e : Entry} (hexec : exec i s = onCommand s fun r _ => s.takeReply i r)
      (hwhole : replyShort i = false) (hentry : replyEntries i = [(reg.toNat, e)]) :
      ∃ t, exec i s = .next t ∧ t = { s with reply := t.reply } ∧
        Entered reg.toNat e s.reply t.reply ∧ SameBytes s t := by
    refine ⟨_, hexec.trans (onCommand_takeReply h hwhole), rfl, fun k => ?_, sameBytes_reply s _⟩
    rw [hentry]
    exact ReplyMap.lookup_insert _ _ _ _
  simp only [List.mem_cons, Prod.mk.injEq, List.not_mem_nil, or_false] at hi
  obtain ⟨rfl, rfl⟩ | ⟨rfl, rfl⟩ | ⟨rfl, rfl⟩ | ⟨rfl, rfl⟩ | ⟨rfl, rfl⟩ | ⟨rfl, rfl⟩ := hi <;>
    exact one rfl rfl rfl

/-! ### Streams -/

/-- Settles O41: the length can be encoded, so the encoder's bytes are the result. -/
theorem streamC2sEncodes : Obligations.StreamC2sEncodes := by
  unfold Obligations.StreamC2sEncodes
  intro channel data s h hl
  obtain ⟨_, -, he⟩ := onCommand_of_canIssue h fun r _ =>
    if 2 ^ 32 ≤ data.length then s.ret r .refused else s.ret r (.bytes (c2s channel data))
  refine ⟨_, he.trans (congrArg _ (if_neg (Nat.not_le.mpr hl))), sameBytes_answered s _, ?_⟩
  rw [← c2s_eq]
  rfl

/-- Settles O42: the received channel is compared with the requester's own as a number. -/
theorem streamS2cIsAccepted : Obligations.StreamS2cIsAccepted := by
  unfold Obligations.StreamS2cIsAccepted
  intro channel data s c h hc
  have hexec : exec (.streamS2c channel data) s =
      .next (s.acceptStream s.issuer c.channel channel data) :=
    onCommand_eq h hc fun r c => s.acceptStream r c.channel channel data
  have hown : channel = c.channel.setWidth 35 ↔ channel.toNat = c.channel.toNat := by
    rw [← BitVec.toNat_inj, BitVec.toNat_setWidth_of_le (by decide)]
  exact ⟨fun heq => ⟨_, hexec.trans (congrArg _ (if_pos (hown.mpr heq))), rfl, sameBytesBut_rdbuf s _⟩,
    fun hne => hexec.trans (congrArg _ (if_neg (mt hown.mp hne)))⟩

/-! ### Exchanges -/

/-- Settles O44: each of the four bodies, past its own check, is the request for the token. -/
theorem exchangeAsksForTheToken : Obligations.ExchangeAsksForTheToken := by
  unfold Obligations.ExchangeAsksForTheToken
  intro s c h hc
  have hregister (op : ExOp) : onCommand s (fun r c => s.requestRegisterExchange op r c) =
      .next (s.requestRegisterExchange op s.issuer c) := onCommand_eq h hc _
  have hdrain : exec .streamDrain s = .next (if c.wrbuf = [] then s.ret s.issuer .done
      else s.requestToken (some .streamDrain) s.issuer) :=
    onCommand_eq h hc fun r c =>
      if c.wrbuf = [] then s.ret r .done else s.requestToken (some .streamDrain) r
  have hpoll : exec .streamPoll s = .next (s.requestToken (some .streamPoll) s.issuer) :=
    onCommand_eq h hc fun r _ => s.requestToken (some .streamPoll) r
  refine ⟨fun i op hi hreq hwr => ?asks, fun hlong => ?long, fun hnil => ?empty⟩
  case asks =>
    have hexec : exec i s = .next (s.requestToken (some op) s.issuer) := by
      have hshort (hop : op = .registerQuery ∨ op = .registerWrite) :
          s.requestRegisterExchange op s.issuer c = s.requestToken (some op) s.issuer :=
        if_neg (Nat.not_lt.mpr (hreq hop))
      simp only [List.mem_cons, Prod.mk.injEq, List.not_mem_nil, or_false] at hi
      obtain ⟨rfl, rfl⟩ | ⟨rfl, rfl⟩ | ⟨rfl, rfl⟩ | ⟨rfl, rfl⟩ := hi
      · exact (hregister _).trans (congrArg _ (hshort (.inl rfl)))
      · exact (hregister _).trans (congrArg _ (hshort (.inr rfl)))
      · exact hdrain.trans (congrArg _ (if_neg (hwr rfl)))
      · exact hpoll
    refine ⟨fun htoken => ?_, fun htoken =>
      hexec.trans (congrArg _ (State.requestToken_of_holder h htoken _))⟩
    refine ⟨_, hexec.trans (congrArg _ (State.requestToken_of_other htoken _)), ?_,
      fun q => mem_waitersInsert q _ _, rfl⟩
    exact sameBytes_of_modify (r := s.issuer) ⟨rfl, rfl, rfl, rfl, rfl, rfl⟩ rfl
      fun _ => ⟨rfl, rfl, rfl⟩
  case long =>
    have hfault (op : ExOp) :
        s.requestRegisterExchange op s.issuer c = s.faulted .payloadTooLong 2 :=
      (if_pos hlong).trans (State.faulted_of_canIssue h _)
    exact ⟨(hregister _).trans (congrArg _ (hfault _)), (hregister _).trans (congrArg _ (hfault _))⟩
  case empty => exact hdrain.trans (congrArg _ (if_pos hnil))

end Commands

/-! ### Reset -/

/-- Settles O54: the reset event builds the initial state on the straps it finds. -/
theorem resetClearsEverything : Obligations.ResetClearsEverything := by
  unfold Obligations.ResetClearsEverything
  intro s
  refine ⟨_, rfl, ?straps, rfl, rfl, rfl, rfl, rfl, rfl, rfl, rfl, rfl, rfl, rfl, rfl, rfl, rfl, rfl, rfl,
    rfl, rfl, rfl, rfl, fun c hc => ?client⟩
  case straps => simp [State.straps, State.resetEvent, State.initial, Client.fresh, Function.comp_def]
  case client =>
    obtain ⟨p, -, rfl⟩ := List.mem_map.mp hc
    exact ⟨rfl, rfl, rfl, rfl, rfl⟩

/-- Settles O60: the reset state is an initial state, and each range holds of its values. -/
theorem invariantsHoldAtReset : Obligations.InvariantsHoldAtReset := by
  unfold Obligations.InvariantsHoldAtReset
  refine ⟨State.initial_linkInv _ _ _ _, ?staging, ?status⟩
  case staging =>
    simp [State.StagingInv, State.reset, State.initial, RxEngine.fresh, VuRegs.zero]
  case status =>
    simp [State.StatusInv, ReplyMap.wf, State.reset, State.initial]

end Sys2Proof.Machine
end

section
/-! The ranges of the staging, parse and status registers (10_state.md R24 to R29): what each change keeps of
them, then every step of the machine. -/

namespace Sys2Proof

/-- The parse registers' part: the cursor is inside the bytes and the varuint scratch in range. -/
structure Reader.InRange (rd : Reader) : Prop where
  pay : rd.pay.length ≤ 255
  cur : rd.cur ≤ rd.pay.length
  cnt : rd.vu.cnt.toNat ≤ 5
  shift : rd.vu.shift.toNat = 7 * rd.vu.cnt.toNat

/-- A parser that starts on a frame's payload stays in range (45_register_reply_decoder.md R266). -/
theorem Reader.inRange_of_leads {bs : Bytes} {rd : Reader} (hl : bs.length ≤ 255)
    (h : (Reader.start bs).Leads rd) : rd.InRange := by
  obtain ⟨hpay, -, hcur, hvu⟩ := h
  obtain ⟨hcnt, hshift⟩ := hvu ⟨by simp [Reader.start, VuRegs.zero], by simp [Reader.start, VuRegs.zero]⟩
  exact ⟨hpay ▸ hl, hcur (Nat.zero_le _), hcnt, hshift⟩

end Sys2Proof

namespace Sys2Proof.Machine

open Sys2Proof

/-! ### The staging invariant in its two parts -/

/-- The receive engine's part of the staging invariant. -/
abbrev RxEngine.Staged (rx : RxEngine) : Prop :=
  rx.payload.length ≤ 255 ∧ rx.cnt.toNat ≤ 257 ∧
  (rx.state = .hdr → rx.cnt.toNat < 4 ∧ rx.payload = [] ∧
    rx.acc = crc16 ([rx.magic.extractLsb' 0 8, rx.magic.extractLsb' 8 8, rx.src].take rx.cnt.toNat)) ∧
  (rx.state = .len → rx.cnt.toNat = 4 ∧ rx.payload = [] ∧ rx.magic = Config.magic ∧
    rx.acc = crc16 [0x54, 0xAB, rx.src, rx.dst]) ∧
  (rx.state = .body → rx.cnt.toNat ≤ rx.len.toNat + 1 ∧
    rx.payload.length = min rx.cnt.toNat rx.len.toNat ∧ rx.magic = Config.magic ∧
    rx.acc = crc16 ([0x54, 0xAB, rx.src, rx.dst, rx.len] ++ rx.payload))

/-- PAY, CUR and the varuint scratch. -/
def State.reader (s : State) : Reader := ⟨s.pay, s.cur, s.vu⟩

theorem State.stagingInv_iff {s : State} : s.StagingInv ↔ s.rx.Staged ∧ s.reader.InRange := by
  constructor
  · rintro ⟨h1, h2, h3, h4, h5, hpay, hcur, hcnt, hshift⟩
    exact ⟨⟨h1, h2, h3, h4, h5⟩, hpay, hcur, hcnt, hshift⟩
  · rintro ⟨⟨h1, h2, h3, h4, h5⟩, hpay, hcur, hcnt, hshift⟩
    exact ⟨h1, h2, h3, h4, h5, hpay, hcur, hcnt, hshift⟩

/-- Outside a read the engine's registers have their bounds only. -/
theorem RxEngine.staged_of_idle {rx : RxEngine} (hstate : rx.state = .idle)
    (hpayload : rx.payload.length ≤ 255) (hcnt : rx.cnt.toNat ≤ 257) : rx.Staged :=
  ⟨hpayload, hcnt, by simp [hstate], by simp [hstate], by simp [hstate]⟩

theorem s2c_leads (rd : Reader) : rd.Leads (s2c rd).2 := by
  have hfields : rd.Leads ((rdVu rd).bind fun id rd => (rdVu rd).bind fun channel rd =>
      (rdVu rd).bind fun len rd => (.ok (id, channel, len), rd) : Read (VuValue × VuValue × VuValue)).2 :=
    Read.bind_leads (rdVu_leads rd) fun _ r1 h1 =>
      Read.bind_leads (h1.trans (rdVu_leads r1)) fun _ r2 h2 =>
        Read.bind_leads (h2.trans (rdVu_leads r2)) fun _ _ h3 => h3
  unfold s2c
  split <;> rename_i h <;> rw [h] at hfields
  · split_ifs <;> exact hfields
  · exact hfields
  · exact hfields

/-! ### What changes keep -/

/-- `t` keeps the ranges `s` has. -/
structure State.KeepsRegs (s t : State) : Prop where
  staging : s.StagingInv → t.StagingInv
  status : s.StatusInv → t.StatusInv

section Keeps

variable {s t u : State} {r : Nat} {c : Client}

theorem State.KeepsRegs.trans (h : s.KeepsRegs t) (k : t.KeepsRegs u) : s.KeepsRegs u :=
  ⟨k.staging ∘ h.staging, k.status ∘ h.status⟩

theorem State.keepsRegs_ret (r : Nat) (res : Result) (s : State) : s.KeepsRegs (s.ret r res) := ⟨id, id⟩

theorem State.keepsRegs_endCommand (r : Nat) (res : Result) (s : State) :
    s.KeepsRegs (s.endCommand r res) := ⟨id, id⟩

/-- A fault stores its own code, or leaves the first one (60_exceptions.md R346). -/
theorem State.raise_status (c : Cause) (r : Nat) (h : s.StatusInv) : (s.raise c r).StatusInv := by
  obtain ⟨hreply, hcause, hle⟩ := h
  refine ⟨hreply, ?_⟩
  cases hf : s.fatal with
  | true => simpa [State.raise, causeAfter, hf] using ⟨by simpa [hf] using hcause, hle⟩
  | false => cases c <;> simp [State.raise, causeAfter, hf, Cause.code]

theorem State.keepsRegs_raise (c : Cause) (r : Nat) (s : State) : s.KeepsRegs (s.raise c r) :=
  ⟨id, State.raise_status c r⟩

/-- The registers a parser leaves (45_register_reply_decoder.md R265). -/
theorem State.keepsRegs_fetched {rd : Reader} (h : rd.InRange) (s : State) :
    s.KeepsRegs (s.fetched rd) :=
  ⟨fun hs => State.stagingInv_iff.mpr ⟨(State.stagingInv_iff.mp hs).1, h⟩, id⟩

/-- Entries keep REPLY in its canonical form (log 22). -/
theorem State.keepsRegs_insertAll (es : List (Nat × Entry)) (s : State) :
    s.KeepsRegs { s with reply := ReplyMap.insertAll es s.reply } :=
  ⟨id, fun ⟨hreply, hcause⟩ => ⟨ReplyMap.insertAll_wf hreply, hcause⟩⟩

theorem State.keepsRegs_takeReply (i : Instr) (r : Nat) (s : State) :
    s.KeepsRegs (s.takeReply i r) := by
  have h := s.keepsRegs_insertAll (replyEntries i)
  unfold State.takeReply
  dsimp only
  split
  · exact ⟨h.staging, h.status⟩
  · exact h

/-- All a parse leaves of a frame's payload. -/
theorem parsePayload_inRange {payload : Bytes} (hl : payload.length ≤ 255) :
    (parsePayload payload).2.1.InRange :=
  Reader.inRange_of_leads hl (parseLoop_keeps _ _ _).1

theorem State.runParse_status (payload : Bytes) (h : s.StatusInv) :
    (s.runParse payload).2.StatusInv := by
  obtain ⟨-, hcause⟩ := h
  obtain ⟨-, -, hwf⟩ := parsePayload_keeps payload
  unfold State.runParse
  dsimp only
  split <;> exact ⟨hwf, hcause⟩

theorem State.runParse_staging {payload : Bytes} (hl : payload.length ≤ 255) (h : s.rx.Staged) :
    (s.runParse payload).2.StagingInv := by
  obtain ⟨-, hpay, -⟩ := parsePayload_keeps payload
  obtain ⟨-, hcur, hcnt, hshift⟩ := parsePayload_inRange hl
  rw [hpay] at hcur
  unfold State.runParse
  dsimp only
  split <;> exact State.stagingInv_iff.mpr ⟨h, hl, hcur, hcnt, hshift⟩

theorem State.keepsRegs_parseFor {payload : Bytes} (hl : payload.length ≤ 255) (r : Nat) (s : State) :
    s.KeepsRegs (s.parseFor payload r) := by
  have hrun : s.KeepsRegs (s.runParse payload).2 :=
    ⟨fun h => State.runParse_staging hl (State.stagingInv_iff.mp h).1, State.runParse_status payload⟩
  unfold State.parseFor
  split <;> rename_i h <;> rw [h] at hrun
  · exact hrun.trans (State.keepsRegs_ret _ _ _)
  · exact hrun.trans (State.keepsRegs_raise _ _ _)

theorem State.keepsRegs_acceptStream (r : Nat) (own : U32) (channel : VuValue) (data : Bytes)
    (s : State) : s.KeepsRegs (s.acceptStream r own channel data) := by
  unfold State.acceptStream
  split <;> exact ⟨id, id⟩

theorem State.keepsRegs_appendWriteMultiple (t : TypeTag) (start : U32) (vals : List TV) (r : Nat)
    (s : State) : s.KeepsRegs (s.appendWriteMultiple t start vals r) := by
  unfold State.appendWriteMultiple
  split
  · exact s.keepsRegs_raise _ r
  · split <;> exact ⟨id, id⟩

theorem State.keepsRegs_requestToken (op : Option ExOp) (r : Nat) (s : State) :
    s.KeepsRegs (s.requestToken op r) := by
  obtain ⟨-, he⟩ | ⟨-, he⟩ := s.requestToken_cases op r <;> rw [he]
  · exact s.keepsRegs_raise _ r
  · exact ⟨id, id⟩

theorem State.keepsRegs_requestRegisterExchange (op : ExOp) (r : Nat) (c : Client) (s : State) :
    s.KeepsRegs (s.requestRegisterExchange op r c) := by
  unfold State.requestRegisterExchange
  split
  · exact s.keepsRegs_raise _ r
  · exact s.keepsRegs_requestToken _ r

/-- A read starts with nothing counted and a fresh remainder (43_link_manager.md R200). -/
theorem State.keepsRegs_acceptRead (r : Nat) (filter : Option Id7) (s : State) :
    s.KeepsRegs (s.acceptRead r filter) :=
  ⟨fun h => State.stagingInv_iff.mpr
    ⟨⟨by simp, by simp, fun _ => ⟨by simp, rfl, rfl⟩, by simp, by simp⟩, (State.stagingInv_iff.mp h).2⟩, id⟩

theorem State.keepsRegs_vuDec (src : Bytes) (r : Nat) (s : State) :
    s.KeepsRegs ({ s with vu := (vuDec src 0).2 }.retVarint (vuDec src 0).1 r) := by
  obtain ⟨hcnt, hshift, -⟩ := vuDec_bounds src 0
  have hvu : s.KeepsRegs { s with vu := (vuDec src 0).2 } :=
    ⟨fun ⟨h1, h2, h3, h4, h5, hpay, hcur, _, _⟩ => ⟨h1, h2, h3, h4, h5, hpay, hcur, hcnt, hshift⟩, id⟩
  refine hvu.trans ?_
  unfold State.retVarint
  split
  case h_4 => exact State.keepsRegs_raise _ _ _
  all_goals exact State.keepsRegs_ret _ _ _

theorem State.keepsRegs_retDecoded (f : Frame) (c : BitVec 16) (r : Nat) (s : State) :
    s.KeepsRegs (s.retDecoded f c r) := by
  unfold State.retDecoded
  dsimp only
  split <;> exact ⟨id, id⟩

/-! ### The commands -/

/-- Every next state of the outcome keeps the ranges. -/
def State.OutKeepsRegs (s : State) (o : Out) : Prop := ∀ t, o = .next t → s.KeepsRegs t

theorem onCommand_keepsRegs {b : Nat → Client → State} (hb : ∀ r c, s.KeepsRegs (b r c)) :
    s.OutKeepsRegs (onCommand s b) := by
  intro t ht
  obtain ⟨-, he⟩ | ⟨_, -, -, he⟩ | ⟨c, -, -, he⟩ := onCommand_cases s b <;> cases he.symm.trans ht
  · exact s.keepsRegs_ret _ _
  · exact hb _ c

theorem execStreamC2s_keepsRegs (channel : U32) (data : Bytes) :
    s.OutKeepsRegs (execStreamC2s channel data s) :=
  onCommand_keepsRegs fun _ _ => by split <;> exact ⟨id, id⟩

theorem execStreamTake_keepsRegs (size : Nat) : s.OutKeepsRegs (execStreamTake size s) :=
  onCommand_keepsRegs fun _ _ => by split <;> exact ⟨id, id⟩

theorem execLockRelease_keepsRegs : s.OutKeepsRegs (execLockRelease s) :=
  onCommand_keepsRegs fun r _ => by
    split
    · exact ⟨id, id⟩
    · exact s.keepsRegs_raise _ r

theorem execLmDrain_keepsRegs : s.OutKeepsRegs (execLmDrain s) :=
  onCommand_keepsRegs fun r _ => by
    split
    · exact ⟨id, id⟩
    · exact s.keepsRegs_raise _ r

theorem execLmReadFrame_keepsRegs (filter : Option Id7) :
    s.OutKeepsRegs (execLmReadFrame filter s) :=
  onCommand_keepsRegs fun r _ => by
    split
    · exact s.keepsRegs_acceptRead r filter
    · exact s.keepsRegs_raise _ r

theorem execStreamDrain_keepsRegs : s.OutKeepsRegs (execStreamDrain s) :=
  onCommand_keepsRegs fun r _ => by
    split
    · exact ⟨id, id⟩
    · exact s.keepsRegs_requestToken _ r

theorem State.buildFrame_keepsRegs {srcId dstId : Id7} {rr : Bool} {payload bs : Bytes}
    (h : s.buildFrame srcId rr dstId payload = some (bs, t)) : s.KeepsRegs t := by
  unfold State.buildFrame at h
  split at h
  · cases h
  · cases h
    exact ⟨id, id⟩

theorem execFrameEnc_keepsRegs (srcId : Id7) (rr : Bool) (dstId : Id7) (payload : Bytes) :
    s.OutKeepsRegs (execFrameEnc srcId rr dstId payload s) :=
  onCommand_keepsRegs fun r _ => by
    split
    · exact s.keepsRegs_raise _ r
    · exact (State.buildFrame_keepsRegs ‹_›).trans (State.keepsRegs_ret _ _ _)

theorem execFrameDec_keepsRegs (data : Bytes) : s.OutKeepsRegs (execFrameDec data s) :=
  onCommand_keepsRegs fun r _ => by
    split
    · exact ⟨id, id⟩
    · exact ⟨id, id⟩
    · exact s.keepsRegs_retDecoded _ _ r

/-- Every well-formed instruction of a requester's port keeps the ranges. -/
theorem exec_keepsRegs {i : Instr} (hport : i.port ≠ .wire) (hwf : i.wf = true) (s : State) :
    s.OutKeepsRegs (exec i s) := by
  cases i with
  | frame => exact absurd rfl hport
  | writeSingleInt8 | writeSingleInt16 | writeSingleInt32 | writeSingleFloat
  | readSingleInt8 | readSingleInt16 | readSingleInt32 | readSingleFloat
  | readMultipleInt8 | readMultipleInt16 | readMultipleInt32 | readMultipleFloat
  | rqReadSingle | rqReadMultiple | rqWriteSingle =>
    exact onCommand_keepsRegs fun r _ => show s.KeepsRegs (s.appendRequest r _) from ⟨id, id⟩
  | writeMultipleInt8 | writeMultipleInt16 | writeMultipleInt32 | writeMultipleFloat
  | rqWriteMultiple =>
    exact onCommand_keepsRegs fun r _ => s.keepsRegs_appendWriteMultiple _ _ _ r
  | replySingleInt8 | replySingleInt16 | replySingleInt32 | replySingleFloat
  | replyMultipleInt8 | replyMultipleInt16 | replyMultipleInt32 | replyMultipleFloat
  | writeError | readError => exact onCommand_keepsRegs fun r _ => s.keepsRegs_takeReply _ r
  | streamC2s channel data => exact execStreamC2s_keepsRegs channel data
  | streamS2c => exact onCommand_keepsRegs fun r c => s.keepsRegs_acceptStream r c.channel _ _
  | vuEnc => exact onCommand_keepsRegs fun r _ => s.keepsRegs_ret r _
  | vuDec src => exact onCommand_keepsRegs fun r _ => s.keepsRegs_vuDec src r
  | crc16 data =>
    exact onCommand_keepsRegs (b := fun r _ => { s with crcAcc := crc16 data }.ret r (.crc (crc16 data)))
      fun r _ => ⟨id, id⟩
  | frameEnc srcId rr dstId payload => exact execFrameEnc_keepsRegs srcId rr dstId payload
  | frameDec data => exact execFrameDec_keepsRegs data
  | lockAcquire | streamPoll => exact onCommand_keepsRegs fun r _ => s.keepsRegs_requestToken _ r
  | lockRelease => exact execLockRelease_keepsRegs
  | lmWrite data =>
    exact onCommand_keepsRegs (b := fun r _ => { s with txbuf := s.txbuf ++ data }.ret r .done)
      fun r _ => ⟨id, id⟩
  | lmDrain => exact execLmDrain_keepsRegs
  | lmReadFrame filter => exact execLmReadFrame_keepsRegs filter
  | rqClear =>
    exact onCommand_keepsRegs
      (b := fun r _ => (s.modClient r fun c => { c with reqbuf := [] }).ret r .done)
      fun r _ => ⟨id, id⟩
  | streamWrite data =>
    exact onCommand_keepsRegs
      (b := fun r _ => (s.modClient r fun c => { c with wrbuf := c.wrbuf ++ data }).ret r .done)
      fun r _ => ⟨id, id⟩
  | streamTake size => exact execStreamTake_keepsRegs size
  | parseRegisterReply payload =>
    exact onCommand_keepsRegs fun r _ => s.keepsRegs_parseFor (of_decide_eq_true hwf) r
  | registerQuery | registerWrite =>
    exact onCommand_keepsRegs fun r c => s.keepsRegs_requestRegisterExchange _ r c
  | streamDrain => exact execStreamDrain_keepsRegs

theorem State.refuseCommand_keepsRegs : s.OutKeepsRegs s.refuseCommand :=
  fun _ ht => State.refuseCommand_next ht ▸ s.keepsRegs_ret _ _

theorem State.runCommand_keepsRegs (r : Nat) (bs : Bytes) : s.OutKeepsRegs (s.runCommand r bs) := by
  intro t ht
  have hissuer : s.KeepsRegs { s with issuer := r } := ⟨id, id⟩
  unfold State.runCommand at ht
  split at ht
  · rename_i i hd
    have hfits := decodeCommand_fits hd
    exact hissuer.trans (exec_keepsRegs (hfits.port_ne_wire (by decide)) hfits.1 _ t ht)
  · exact hissuer.trans (State.refuseCommand_keepsRegs t ht)

theorem fetchReader_inRange {i : Instr} {rd : Reader} (hl : rd.pay.length ≤ 255) (h : rd.InRange) :
    (fetchReader i rd).InRange := by
  unfold fetchReader
  split
  · exact Reader.inRange_of_leads hl (s2c_leads _)
  · exact h

theorem State.rejectSubframe_keepsRegs (bs : Bytes) (e : Reject) {rd : Reader} (h : rd.InRange) :
    s.OutKeepsRegs (s.rejectSubframe bs e rd) := by
  have hfetched := s.keepsRegs_fetched h
  have hstop (why : StopReason) : s.OutKeepsRegs (onCommand s fun r _ => s.stopSub why rd r) :=
    onCommand_keepsRegs fun _ _ => ⟨hfetched.staging, hfetched.status⟩
  unfold State.rejectSubframe
  split
  · exact onCommand_keepsRegs fun _ _ => hfetched.trans (State.keepsRegs_raise _ _ _)
  · split
    · exact hstop _
    · exact onCommand_keepsRegs fun _ _ => hfetched
    · split
      · exact hstop _
      · exact State.refuseCommand_keepsRegs

theorem State.runSubframe_keepsRegs (r : Nat) (bs : Bytes) :
    s.OutKeepsRegs (s.runSubframe r bs) := by
  intro t ht
  have hissuer : s.KeepsRegs { s with issuer := r } := ⟨id, id⟩
  unfold State.runSubframe at ht
  dsimp only at ht
  split at ht
  · exact hissuer.trans (State.refuseCommand_keepsRegs t ht)
  · have hl : bs.length ≤ 255 := Nat.le_of_not_lt ‹_›
    have hleads := decodeSub_leads (Reader.start bs)
    split at ht <;> rename_i hd <;> rw [hd] at hleads
    · have hrd := Reader.inRange_of_leads hl hleads
      obtain ⟨hwf, hport⟩ := decodeSub_fits (congrArg Prod.fst hd)
      have hexec := exec_keepsRegs (by rw [hport]; decide) hwf _ t ht
      refine hissuer.trans (State.KeepsRegs.trans ?_ hexec)
      unfold State.fetchedSub
      split
      · exact State.keepsRegs_fetched (fetchReader_inRange hrd.pay hrd) _
      · exact ⟨id, id⟩
    · exact hissuer.trans
        (State.rejectSubframe_keepsRegs bs _ (Reader.inRange_of_leads hl hleads) t ht)

end Keeps

end Sys2Proof.Machine
end

section
/-! The ranges of the registers under the steps of the engines and of the environment, and with them every
step. -/

namespace Sys2Proof.Machine

open Sys2Proof

section Engines

variable {s t u : State} {r : Nat} {c : Client}

/-! ### The end of a read -/

theorem State.decodeExchange_status (op : ExOp) (r : Nat) (c : Client) (f : Frame) (h : s.StatusInv) :
    (s.decodeExchange op r c f).StatusInv := by
  cases op with
  | registerQuery =>
    have hrun := State.runParse_status (s := s.modClient r fun c => { c with exs := .decoded }) f.payload h
    simp only [State.decodeExchange, State.decodeQuery]
    split <;> rename_i hp <;> rw [hp] at hrun
    · exact hrun
    · exact State.raise_status _ r hrun
  | streamPoll =>
    simp only [State.decodeExchange, State.decodePoll]
    split
    · exact (State.keepsRegs_acceptStream r c.channel _ _ _).status h
    · exact h
    · exact State.raise_status (s := State.fetched _ (s.modClient r _)) _ r h
  | registerWrite | streamDrain => exact h

theorem State.decodeExchange_staging (op : ExOp) (r : Nat) (c : Client) {f : Frame}
    (hl : f.payload.length ≤ 255) (h : s.StagingInv) : (s.decodeExchange op r c f).StagingInv := by
  have hstaged := (State.stagingInv_iff.mp h).1
  cases op with
  | registerQuery =>
    have hrun := State.runParse_staging (s := s.modClient r fun c => { c with exs := .decoded }) hl hstaged
    simp only [State.decodeExchange, State.decodeQuery]
    split <;> rename_i hp <;> rw [hp] at hrun <;> exact hrun
  | streamPoll =>
    have hread := (State.keepsRegs_fetched (Reader.inRange_of_leads hl (s2c_leads (Reader.start f.payload)))
      (s.modClient r fun c => { c with exs := .decoded })).staging h
    simp only [State.decodeExchange, State.decodePoll]
    split
    · exact (State.keepsRegs_acceptStream r c.channel _ _ _).staging hread
    · exact hread
    · exact hread
  | registerWrite | streamDrain => exact h

theorem State.endRead_status (e : ReadEnd) (h : s.StatusInv) : (s.endRead e).StatusInv := by
  obtain ⟨he, -⟩ | ⟨r, c, -, -, -, he⟩ | ⟨r, c, op, -, -, -, he⟩ := s.endRead_cases e <;> rw [he]
  · exact h
  · cases e <;> exact h
  · cases e with
    | frame f => exact State.decodeExchange_status (s := s.readClosed) op r c f h
    | noData | resyncTimeout | timeout | cancelled => exact h

/-- A read that ends leaves the engine's registers within their bounds; one that is issued again starts
afresh (43_link_manager.md R200, R211). -/
theorem State.endRead_staging {e : ReadEnd} (he : ∀ f, e = .frame f → f.payload.length ≤ 255)
    (hpayload : s.rx.payload.length ≤ 255) (hcnt : s.rx.cnt.toNat ≤ 257) (h : s.reader.InRange) :
    (s.endRead e).StagingInv := by
  have hclosed : s.readClosed.StagingInv :=
    State.stagingInv_iff.mpr ⟨RxEngine.staged_of_idle rfl hpayload hcnt, h⟩
  obtain ⟨hend, -⟩ | ⟨r, c, -, -, -, hend⟩ | ⟨r, c, op, -, -, -, hend⟩ := s.endRead_cases e <;>
    rw [hend]
  · exact hclosed
  · cases e <;> exact hclosed
  · cases e with
    | frame f =>
      exact State.decodeExchange_staging (s := s.readClosed) op r c (he f rfl) hclosed
    | noData => exact (State.keepsRegs_acceptRead r _ s.readClosed).staging hclosed
    | resyncTimeout | timeout | cancelled => exact hclosed

theorem State.keepsRegs_endRead {e : ReadEnd} (he : ∀ f, e ≠ .frame f) (s : State) :
    s.KeepsRegs (s.endRead e) := by
  refine ⟨fun h => ?_, State.endRead_status e⟩
  obtain ⟨⟨hpayload, hcnt, -⟩, hreader⟩ := State.stagingInv_iff.mp h
  exact State.endRead_staging (fun f hf => absurd hf (he f)) hpayload hcnt hreader

/-! ### The byte step -/

theorem extractLsb'_high (x y : Byte) : (x ++ y).extractLsb' 8 8 = x :=
  BitVec.extractLsb'_append_eq_left

theorem cnt_add_one {cnt : BitVec 9} (h : cnt.toNat ≤ 256) : (cnt + 1).toNat = cnt.toNat + 1 :=
  (BitVec.toNat_add _ _).trans (Nat.mod_eq_of_lt (show cnt.toNat + 1 < 512 by omega))

theorem cnt_cases {cnt : BitVec 9} (h : cnt.toNat < 4) : cnt = 0 ∨ cnt = 1 ∨ cnt = 2 ∨ cnt = 3 := by
  simp only [← BitVec.toNat_inj]
  simp
  omega

/-- The header bytes (43_link_manager.md R202, R203). -/
theorem State.rxTake_header_staging (b : Byte) (hstate : s.rx.state = .hdr) (h : s.StagingInv) :
    (s.rxTake b).StagingInv := by
  obtain ⟨⟨hlen, hle, hhdr, -, -⟩, hreader⟩ := State.stagingInv_iff.mp h
  obtain ⟨hcnt, hpayload, hacc⟩ := hhdr hstate
  obtain hcnt | hcnt | hcnt | hcnt := cnt_cases hcnt
  · rw [State.rxTake_magicLow hstate hcnt]
    refine State.stagingInv_iff.mpr ⟨⟨hlen, by simp, fun _ => ⟨by simp, hpayload, ?_⟩, by simp [hstate],
      by simp [hstate]⟩, hreader⟩
    rw [hcnt] at hacc
    simp [hacc, extractLsb'_low, crc16]
  · rw [State.rxTake_magicHigh hstate hcnt]
    refine State.stagingInv_iff.mpr ⟨⟨hlen, by simp, fun _ => ⟨by simp, hpayload, ?_⟩, by simp [hstate],
      by simp [hstate]⟩, hreader⟩
    rw [hcnt] at hacc
    simp [hacc, extractLsb'_low, extractLsb'_high, crc16]
  · rw [State.rxTake_src hstate hcnt]
    refine State.stagingInv_iff.mpr ⟨⟨hlen, by simp, fun _ => ⟨by simp, hpayload, ?_⟩, by simp [hstate],
      by simp [hstate]⟩, hreader⟩
    rw [hcnt] at hacc
    simp [hacc, crc16]
  · by_cases hmagic : s.rx.magic = 0xAB54
    · rw [State.rxTake_dst hstate hcnt hmagic]
      refine State.stagingInv_iff.mpr ⟨⟨hlen, by simp, by simp, fun _ => ⟨rfl, hpayload, hmagic, ?_⟩,
        by simp⟩, hreader⟩
      rw [hcnt, hmagic] at hacc
      rw [hacc]
      rfl
    · rw [State.rxTake_badMagic hstate hcnt hmagic]
      exact State.endRead_staging (by simp) hlen (by simp [State.discard]) hreader

theorem State.rxComplete_staging (hpayload : s.rx.payload.length ≤ 255) (hcnt : s.rx.cnt.toNat ≤ 257)
    (h : s.reader.InRange) : s.rxComplete.StagingInv := by
  rw [State.rxComplete_eq]
  split_ifs
  · exact State.endRead_staging (by simp) hpayload hcnt h
  · exact State.endRead_staging (by simp) hpayload hcnt h
  · refine State.endRead_staging (fun f hf => ?_) hpayload hcnt h
    cases hf
    exact hpayload

/-- The bytes behind the header (43_link_manager.md R204, R205). -/
theorem State.rxTake_body_staging (b : Byte) (hstate : s.rx.state = .body) (h : s.StagingInv) :
    (s.rxTake b).StagingInv := by
  obtain ⟨⟨hlen, hle, -, -, hbody⟩, hreader⟩ := State.stagingInv_iff.mp h
  obtain ⟨hcnt, hpayload, hmagic, hacc⟩ := hbody hstate
  have hlen8 : s.rx.len.toNat < 256 := s.rx.len.isLt
  have hadd : (s.rx.cnt + 1).toNat = s.rx.cnt.toNat + 1 := cnt_add_one (by omega)
  obtain hlt | heq | hgt := lt_trichotomy s.rx.cnt.toNat s.rx.len.toNat
  · rw [State.rxTake_payload hstate hlt]
    refine State.stagingInv_iff.mpr ⟨⟨?_, ?_, by simp [hstate], by simp [hstate], fun _ =>
      ⟨?_, ?_, hmagic, ?_⟩⟩, hreader⟩
    · simp only [List.length_append, List.length_singleton]
      omega
    · simp only [hadd]
      omega
    · simp only [hadd]
      omega
    · simp only [hadd, List.length_append, List.length_singleton]
      omega
    · simp only [hacc, ← List.append_assoc, crc16_concat]
  · rw [State.rxTake_crcLow hstate heq]
    refine State.stagingInv_iff.mpr ⟨⟨hlen, ?_, by simp [hstate], by simp [hstate], fun _ =>
      ⟨?_, ?_, hmagic, hacc⟩⟩, hreader⟩
    · simp only [hadd]
      omega
    · simp only [hadd]
      omega
    · simp only [hadd]
      omega
  · rw [State.rxTake_crcHigh hstate hgt]
    refine State.rxComplete_staging hlen ?_ hreader
    simp only [hadd]
    omega

theorem State.rxTake_len_staging (b : Byte) (hstate : s.rx.state = .len) (h : s.StagingInv) :
    (s.rxTake b).StagingInv := by
  obtain ⟨⟨hlen, -, -, hl, -⟩, hreader⟩ := State.stagingInv_iff.mp h
  obtain ⟨-, hpayload, hmagic, hacc⟩ := hl hstate
  rw [State.rxTake_len hstate]
  refine State.stagingInv_iff.mpr ⟨⟨hlen, by simp, by simp, by simp, fun _ =>
    ⟨by simp, by simp [hpayload], hmagic, ?_⟩⟩, hreader⟩
  simp only [hpayload, hacc, List.append_nil]
  rfl

theorem State.rxByte_staging (h : s.StagingInv) : s.rxByte.StagingInv := by
  obtain he | ⟨-, hstate, b, q, -, he⟩ := s.rxByte_cases
  · rwa [he]
  · rw [he]
    have hq : State.StagingInv { s with rxq := q } := h
    cases hst : s.rx.state with
    | idle => exact absurd hst hstate
    | hdr => exact State.rxTake_header_staging b hst hq
    | len => exact State.rxTake_len_staging b hst hq
    | body => exact State.rxTake_body_staging b hst hq

theorem State.rxByte_status (h : s.StatusInv) : s.rxByte.StatusInv := by
  obtain he | ⟨-, -, hr | ⟨u, e, hr, -, he⟩⟩ := s.rxByte_takesByte
  · rwa [he]
  · exact hr.eq ▸ h
  · have hu : u.StatusInv := hr.eq ▸ h
    exact he ▸ State.endRead_status e hu

theorem State.keepsRegs_rxByte (s : State) : s.KeepsRegs s.rxByte :=
  ⟨State.rxByte_staging, State.rxByte_status⟩

theorem State.keepsRegs_deliver (bs : Bytes) (s : State) : s.KeepsRegs (s.deliver bs) := by
  induction bs generalizing s with
  | nil => exact ⟨id, id⟩
  | cons b bs ih =>
    have harrive : s.KeepsRegs (s.rxArrive b) := ⟨id, id⟩
    exact (harrive.trans (State.keepsRegs_rxByte _)).trans (ih _)

/-! ### Every step -/

theorem State.keepsRegs_grant (r : Nat) (s : State) : s.KeepsRegs (s.grant r) := by
  obtain he | ⟨-, -, -, ⟨-, he⟩ | ⟨-, he⟩⟩ := s.grant_cases r <;> rw [he] <;> exact ⟨id, id⟩

theorem State.keepsRegs_exchangeStep (r : Nat) (s : State) : s.KeepsRegs (s.exchangeStep r) := by
  obtain he | ⟨-, c, -, ⟨_, -, -, -, -, -, he⟩ | ⟨op, -, -, -, -, he⟩ | ⟨-, -, he⟩ |
    ⟨_, _, -, -, -, he⟩⟩ := s.exchangeStep_cases r <;> rw [he]
  · exact ⟨id, id⟩
  · exact ⟨id, id⟩
  · obtain hl | hl := le_or_gt (exchangePayload op c).length 255
    · rw [State.writeExchangeFrame_of_le hl]
      exact ⟨id, id⟩
    · rw [State.writeExchangeFrame_of_gt hl]
      exact s.keepsRegs_raise _ r
  · exact s.keepsRegs_endCommand r _
  · exact s.keepsRegs_endCommand r _

theorem State.keepsRegs_txFlushed (s : State) : s.KeepsRegs s.txFlushed := by
  obtain he | ⟨-, -, ⟨r, c, -, -, he⟩ | ⟨he, -⟩⟩ := s.txFlushed_cases <;> rw [he]
  · exact ⟨id, id⟩
  · obtain ⟨-, hd⟩ | ⟨-, -, hd⟩ | ⟨_, -, -, -, hd⟩ | ⟨_, -, -, -, hd⟩ :=
      State.drained_cases r c { s with drs := .idle, drOwner := none } <;> rw [hd]
    · exact ⟨id, id⟩
    · exact ⟨id, id⟩
    · have hread := State.keepsRegs_acceptRead r (some c.destId) s
      exact ⟨hread.staging, id⟩
    · exact ⟨id, id⟩
  · exact ⟨id, id⟩

theorem State.keepsRegs_cancel (r : Nat) (s : State) : s.KeepsRegs (s.cancel r) := by
  obtain he | ⟨c, -, ⟨-, he⟩ | he | ⟨-, he⟩ | ⟨-, he⟩⟩ := s.cancel_cases r <;> rw [he]
  · exact ⟨id, id⟩
  · exact ⟨id, id⟩
  · exact ⟨id, id⟩
  · exact State.keepsRegs_endRead (by simp) s
  · exact ⟨id, id⟩

theorem State.keepsRegs_timeout (r : Nat) (s : State) : s.KeepsRegs (s.timeout r) := by
  unfold State.timeout
  split_ifs
  · exact ⟨id, id⟩
  · exact State.keepsRegs_endRead (by simp) s
  · exact ⟨id, id⟩

theorem State.keepsRegs_resetEvent (s : State) : s.KeepsRegs s.resetEvent := by
  refine ⟨fun _ => State.stagingInv_iff.mpr ⟨RxEngine.staged_of_idle rfl ?_ ?_, ⟨?_, ?_, ?_, ?_⟩⟩,
    fun _ => ⟨.nil, ?_, ?_⟩⟩ <;>
  simp [State.resetEvent, State.initial, RxEngine.fresh, VuRegs.zero, State.reader]

theorem State.keepsRegs_act {st : Stimulus} (ht : s.act st = .next t) : s.KeepsRegs t := by
  cases st with
  | command r bs => exact State.runCommand_keepsRegs r bs t ht
  | subframe r bs => exact State.runSubframe_keepsRegs r bs t ht
  | frame bs =>
    obtain ⟨arrived, -, -, -, he⟩ := s.runFrame_eq bs
    exact Host.Outcome.next.inj (he.symm.trans ht) ▸ s.keepsRegs_deliver arrived
  | grant r => exact Host.Outcome.next.inj ht ▸ s.keepsRegs_grant r
  | exchange r => exact Host.Outcome.next.inj ht ▸ s.keepsRegs_exchangeStep r
  | txWrite =>
    obtain rfl := Host.Outcome.next.inj ht
    obtain he | ⟨-, -, he⟩ := s.txWrite_cases <;> rw [he] <;> exact ⟨id, id⟩
  | rxByte => exact Host.Outcome.next.inj ht ▸ s.keepsRegs_rxByte
  | rxArrive b => exact Host.Outcome.next.inj ht ▸ ⟨id, id⟩
  | txFlushed => exact Host.Outcome.next.inj ht ▸ s.keepsRegs_txFlushed
  | timeout r => exact Host.Outcome.next.inj ht ▸ s.keepsRegs_timeout r
  | cancel r => exact Host.Outcome.next.inj ht ▸ s.keepsRegs_cancel r
  | reset => exact Host.Outcome.next.inj ht ▸ s.keepsRegs_resetEvent

end Engines

/-- Settles O59: every agent's step keeps the ranges (`State.keepsRegs_act`), and the schedule is none of
them. -/
theorem registerInvariantsAreKept : Obligations.RegisterInvariantsAreKept := by
  unfold Obligations.RegisterInvariantsAreKept
  have hstep (s t : State) (ht : step s = .next t) : s.KeepsRegs t := by
    obtain ⟨inputs, tick, st, hst⟩ := step_eq_act s
    have h := State.keepsRegs_act (s := { s with inputs := inputs, tick := tick }) (hst ▸ ht)
    exact ⟨h.staging, h.status⟩
  exact ⟨fun s t h ht => (hstep s t ht).staging h, fun s t h ht => (hstep s t ht).status h⟩

end Sys2Proof.Machine
end

section
/-! The codec's round trips: host commands (log 4), frames (30_encoding.md R90), FRAME_DEC on any bytes
(42_frame_codec.md R170) and VU_DEC on any bytes (40_varuint.md R134). -/

namespace Sys2Proof

/-! ### Words and values from their bytes -/

theorem le32_extractLsb' (v : BitVec 32) :
    le32 (v.extractLsb' 0 8) (v.extractLsb' 8 8) (v.extractLsb' 16 8) (v.extractLsb' 24 8) = v := by
  have h1 := BitVec.extractLsb'_append_extractLsb'_eq_extractLsb' (x := v) (start₁ := 16) (len₁ := 8)
    (start₂ := 24) (len₂ := 8) rfl
  have h2 := BitVec.extractLsb'_append_extractLsb'_eq_extractLsb' (x := v) (start₁ := 8) (len₁ := 8)
    (start₂ := 16) (len₂ := 16) rfl
  have h3 := BitVec.extractLsb'_append_extractLsb'_eq_extractLsb' (x := v) (start₁ := 0) (len₁ := 8)
    (start₂ := 8) (len₂ := 24) rfl
  rw [le32, h1, h2, h3]
  exact BitVec.extractLsb'_eq_self

theorem takeU32_bytesLe32 (v : U32) (rest : Bytes) :
    takeU32 (bytesLe32 v ++ rest) = some (v, rest) := by
  simp only [bytesLe32, List.cons_append, List.nil_append, takeU32, le32_extractLsb']

theorem TypeTag.parse_num (t : TypeTag) : TypeTag.parse (t.num.setWidth 8).toNat = some t := by
  cases t <;> rfl

theorem TV.length_bytes (v : TV) : v.bytes.length = v.tag.width := by
  cases v <;> rfl

/-- A value is assembled from the bytes it emits (30_encoding.md R101, 44_register_encoder.md R250). -/
theorem TV.ofBytes_bytes (v : TV) : TV.ofBytes v.tag v.bytes = v := by
  cases v with
  | i8 b => rfl
  | i16 b => exact congrArg TV.i16 (Machine.le16_extractLsb' b)
  | i32 b => exact congrArg TV.i32 (le32_extractLsb' b)
  | f32 b => exact congrArg TV.f32 (le32_extractLsb' b)

theorem takeTV_tagged (v : TV) (rest : Bytes) : takeTV (v.tagged ++ rest) = some (v, rest) := by
  simp only [TV.tagged, List.cons_append, takeTV, TypeTag.parse_num]
  rw [if_pos (by rw [List.length_append, v.length_bytes]; omega), ← v.length_bytes, List.take_left,
    List.drop_left, v.ofBytes_bytes]

theorem takeTVs_tagged (vs : List TV) (n : Nat) (hn : (vs.flatMap TV.tagged).length ≤ n) :
    takeTVs n (vs.flatMap TV.tagged) = some vs := by
  induction vs generalizing n with
  | nil => cases n <;> rfl
  | cons v vs ih =>
    have hcons : (v :: vs).flatMap TV.tagged =
        v.tag.num.setWidth 8 :: (v.bytes ++ vs.flatMap TV.tagged) := rfl
    have htake := takeTV_tagged v (vs.flatMap TV.tagged)
    rw [hcons] at hn ⊢
    rw [TV.tagged, List.cons_append] at htake
    cases n with
    | zero => simp at hn
    | succ n =>
      have hrest : (vs.flatMap TV.tagged).length ≤ n := by
        simp only [List.length_cons, List.length_append] at hn
        omega
      simp only [takeTVs, htake, ih n hrest]

/-- A size is read back from its shortest bytes (log 4). -/
theorem natOfBytes_bytesOfNat (n v : Nat) (h : v ≤ n) : natOfBytes (bytesOfNat n v) = v := by
  induction n generalizing v with
  | zero => exact (Nat.le_zero.mp h).symm
  | succ n ih =>
    rw [bytesOfNat]
    split
    · exact (show v = 0 by assumption).symm
    · rw [natOfBytes, ih (v / 256) (by omega), BitVec.toNat_ofNat]
      omega

end Sys2Proof

namespace Sys2Proof.Machine

open Sys2Proof

/-! ### Host commands -/

theorem checked_of_wf {i : Instr} (h : i.wf = true) : checked i = .ok i := if_pos h

/-- Settles O3: each label is followed by operands that are read back by their own lemma. -/
theorem commandDecodeEncode : Obligations.CommandDecodeEncode := by
  unfold Obligations.CommandDecodeEncode
  intro i hport hwf
  change decodeCommand (encode i) = .ok i
  cases i with
  | vuEnc v =>
    have h := takeU32_bytesLe32 v []
    rw [List.append_nil] at h
    simp [encode, decodeCommand, h]
  | vuDec | crc16 | frameDec | lockAcquire | lockRelease | lmWrite | lmDrain | rqClear | registerQuery
  | registerWrite | streamWrite | streamDrain | streamPoll => simp only [encode]; rfl
  | frameEnc srcId rr dstId payload =>
    have hsrc : (BitVec.ofBool rr ++ srcId : Byte).setWidth 7 = srcId := setWidth_srcByte rr srcId
    have hrr : (BitVec.ofBool rr ++ srcId : Byte).msb = rr := msb_srcByte rr srcId
    have hdst : (0#1 ++ dstId : Byte).setWidth 7 = dstId := setWidth_append_group 0 dstId
    simp [encode, decodeCommand, hsrc, hrr, hdst]
  | lmReadFrame filter =>
    cases filter with
    | none => rfl
    | some f =>
      have hf : (1#1 ++ f : Byte).setWidth 7 = f := setWidth_append_group 1 f
      have hmsb : (1#1 ++ f : Byte).msb = true := msb_append_group 1 f
      simp [encode, decodeCommand, hf, hmsb]
  | rqReadSingle reg ty =>
    have h := takeU32_bytesLe32 reg [ty.num.setWidth 8]
    simp only [encode, decodeCommand, h, ty.parse_num]
    rfl
  | rqReadMultiple reg count ty =>
    have h1 := takeU32_bytesLe32 reg (bytesLe32 count ++ [ty.num.setWidth 8])
    have h2 := takeU32_bytesLe32 count [ty.num.setWidth 8]
    simp only [encode, decodeCommand, List.append_assoc, h1, h2, ty.parse_num]
    rfl
  | rqWriteSingle reg value =>
    have h1 := takeU32_bytesLe32 reg value.tagged
    have h2 := takeTV_tagged value []
    rw [List.append_nil] at h2
    simp [encode, decodeCommand, h1, h2]
  | rqWriteMultiple start values =>
    have h1 := takeU32_bytesLe32 start (values.flatMap TV.tagged)
    have h2 := takeTVs_tagged values _ (le_refl _)
    simp only [encode, decodeCommand, h1, h2, checked_of_wf hwf]
    rfl
  | parseRegisterReply payload => simp [encode, decodeCommand, checked_of_wf hwf]
  | streamTake size =>
    simp [encode, decodeCommand, natOfBytes_bytesOfNat size size (le_refl _)]
  | _ => cases hport

/-! ### Frames -/

/-- The decoder reads a frame's payload and CRC field behind its length byte (30_encoding.md R90). -/
theorem decodeFrame_wireFrame (src dst : Byte) (payload : Bytes) (crc : BitVec 16) (rest : Bytes)
    (hl : payload.length ≤ 255) :
    decodeFrame (wireFrame src dst payload crc ++ rest) = .ok (.frame src dst payload crc) := by
  let body : Bytes := payload ++ [crc.extractLsb' 0 8, crc.extractLsb' 8 8] ++ rest
  have hcons : wireFrame src dst payload crc ++ rest =
      0x54 :: 0xAB :: src :: dst :: BitVec.ofNat 8 payload.length :: body := by
    simp [wireFrame, frameHeader, body]
  have hlen : (BitVec.ofNat 8 payload.length).toNat = payload.length :=
    Nat.mod_eq_of_lt (Nat.lt_succ_of_le hl)
  have hbody : payload.length + 2 ≤ body.length := by
    simp [body]
  have htake : body.take payload.length = payload := by simp [body]
  have hlo : body.getD payload.length 0 = crc.extractLsb' 0 8 := by simp [body]
  have hhi : body.getD (payload.length + 1) 0 = crc.extractLsb' 8 8 := by simp [body]
  rw [hcons, decodeFrame, if_pos (by rfl), hlen, if_pos hbody, htake, hlo, hhi, le16_extractLsb']

/-- Settles O4: the layout is the encoder's, and the decoder reads it back. -/
theorem frameLayout : Obligations.FrameLayout := by
  unfold Obligations.FrameLayout
  intro src dst payload crc rest hl
  exact ⟨rfl, length_wireFrame src dst payload crc, decodeFrame_wireFrame src dst payload crc rest hl⟩

section FrameDec

variable {s : State}

/-- FRAME_DEC answers what the deframer reads (42_frame_codec.md R170). -/
theorem exec_frameDec_of_incomplete (h : s.CanIssue) {data : Bytes}
    (hd : deframe data = .incomplete) : exec (.frameDec data) s = .next (s.answered .incomplete) := by
  have hbody : execFrameDec data s = onCommand s fun r _ => s.ret r .incomplete := by
    simp only [execFrameDec, hd]
  obtain ⟨_, -, he⟩ := onCommand_of_canIssue h fun r _ => s.ret r .incomplete
  exact hbody.trans he

theorem exec_frameDec_of_badMagic (h : s.CanIssue) {data : Bytes} (hd : deframe data = .badMagic) :
    exec (.frameDec data) s = .next (s.answered (.resyncFault .badMagic)) := by
  have hbody : execFrameDec data s = onCommand s fun r _ => s.ret r (.resyncFault .badMagic) := by
    simp only [execFrameDec, hd]
  obtain ⟨_, -, he⟩ := onCommand_of_canIssue h fun r _ => s.ret r (.resyncFault .badMagic)
  exact hbody.trans he

theorem deframe_short {data : Bytes} (h : data.length < 4) : deframe data = .incomplete := if_pos h

theorem le16_eq_magic_iff (m0 m1 : Byte) : le16 m0 m1 = Config.magic ↔ m0 = 0x54 ∧ m1 = 0xAB := by
  refine ⟨fun h => ?_, fun ⟨h0, h1⟩ => h0 ▸ h1 ▸ rfl⟩
  have hlow := congrArg (fun v : BitVec 16 => v.extractLsb' 0 8) h
  have hhigh := congrArg (fun v : BitVec 16 => v.extractLsb' 8 8) h
  rw [le16] at hlow hhigh
  simp only [extractLsb'_low, extractLsb'_high] at hlow hhigh
  exact ⟨hlow, hhigh⟩

theorem deframe_badMagic {m0 m1 b2 b3 : Byte} {rest : Bytes} (h : ¬ (m0 = 0x54 ∧ m1 = 0xAB)) :
    deframe (m0 :: m1 :: b2 :: b3 :: rest) = .badMagic :=
  (if_neg (by simp)).trans (if_pos (mt (le16_eq_magic_iff m0 m1).mp h))

theorem deframe_of_magic {src dst : Byte} {rest : Bytes}
    (h : (0x54 :: 0xAB :: src :: dst :: rest).length < 7 + (rest.getD 0 0).toNat) :
    deframe (0x54 :: 0xAB :: src :: dst :: rest) = .incomplete := by
  have hm : le16 0x54 0xAB = Config.magic := rfl
  refine (if_neg (by simp)).trans ((if_neg (not_not.mpr hm)).trans ?_)
  split
  · rfl
  · exact if_pos h

/-- The answer for a whole frame as the claims spell it (42_frame_codec.md R170, R172). -/
theorem State.retDecoded_eq (src dst : Byte) (payload : Bytes) (crc : BitVec 16) (s : State) :
    s.retDecoded (reportedFrame src dst payload crc) (frameCrc src dst payload) s.issuer =
      { s with
        crcAcc := frameCrc src dst payload
        events := s.events ++ (if frameCrc src dst payload = crc then [] else [Event.crcBad]) }.answered
        (if s.crcEnforce = true ∧ frameCrc src dst payload ≠ crc then .resyncFault .badCrc
         else .decoded (reportedFrame src dst payload crc) (7 + payload.length)) := by
  by_cases hcrc : frameCrc src dst payload = crc
  · simp [State.retDecoded, reportedFrame, hcrc, State.emit, State.ret, State.answered]
  · cases henforce : s.crcEnforce <;>
      simp [State.retDecoded, reportedFrame, hcrc, State.emit, State.ret, State.answered, henforce]

theorem exec_frameDec_wireFrame (h : s.CanIssue) (src dst : Byte) {payload : Bytes} (crc : BitVec 16)
    (rest : Bytes) (hl : payload.length ≤ 255) :
    exec (.frameDec (wireFrame src dst payload crc ++ rest)) s =
      .next ({ s with
        crcAcc := frameCrc src dst payload
        events := s.events ++ (if frameCrc src dst payload = crc then [] else [Event.crcBad]) }.answered
        (if s.crcEnforce = true ∧ frameCrc src dst payload ≠ crc then .resyncFault .badCrc
         else .decoded (reportedFrame src dst payload crc) (7 + payload.length))) :=
  (exec_frameDec_of_whole h (deframe_wireFrame src dst payload crc rest hl)).trans
    (congrArg _ (State.retDecoded_eq src dst payload crc s))

end FrameDec

/-- Settles O13: the deframer's three answers, each by the bytes that lead to it. -/
theorem frameDecReadsTheFrame : Obligations.FrameDecReadsTheFrame := by
  unfold Obligations.FrameDecReadsTheFrame
  intro s h
  refine ⟨fun data hl => exec_frameDec_of_incomplete h (deframe_short hl),
    fun m0 m1 b2 b3 rest hm => exec_frameDec_of_badMagic h (deframe_badMagic hm),
    fun src dst => exec_frameDec_of_incomplete h (deframe_of_magic (by simp)),
    fun src dst len rest hl => exec_frameDec_of_incomplete h (deframe_of_magic ?_),
    fun src dst payload crc rest hl => ⟨_, exec_frameDec_wireFrame h src dst crc rest hl, ?_, rfl⟩⟩
  · simp
    omega
  · intro x a n
    cases x <;> rfl

/-! ### A corrupted byte -/

/-- A shift leaves its top bit in bit 0, as the generator has bit 0 set (41_crc16.md R151). -/
theorem crcShift_getLsbD_zero (c : BitVec 16) : (crcShift c).getLsbD 0 = c.msb := by
  rw [crcShift]
  split <;> rename_i h <;> simp_all [Config.crcPoly]

theorem crcShift_injective : Function.Injective crcShift := by
  intro a b h
  have hmsb : a.msb = b.msb := by rw [← crcShift_getLsbD_zero, h, crcShift_getLsbD_zero]
  have hshl : a <<< 1 = b <<< 1 := by
    rw [crcShift, crcShift, hmsb] at h
    split at h
    · exact (BitVec.xor_left_inj _).mp h
    · exact h
  refine BitVec.eq_of_getLsbD_eq fun i hi => ?_
  by_cases htop : i = 15
  · subst htop
    rw [BitVec.msb_eq_getLsbD_last, BitVec.msb_eq_getLsbD_last] at hmsb
    exact hmsb
  · have hbit := congrArg (fun v : BitVec 16 => v.getLsbD (i + 1)) hshl
    have hlt : i + 1 < 16 := by omega
    simpa [hlt, BitVec.getLsbD_eq_getElem hi] using hbit

theorem crcStep_injective_left (b : Byte) : Function.Injective (crcStep · b) := by
  intro c d h
  simp only [crcStep_eq_iterate] at h
  exact (BitVec.xor_left_inj _).mp (crcShift_injective.iterate 8 h)

theorem crcStep_injective_right (c : BitVec 16) : Function.Injective (crcStep c) := by
  intro a b h
  rw [crcStep_eq_iterate, crcStep_eq_iterate] at h
  have hword := (BitVec.xor_right_inj _).mp (crcShift_injective.iterate 8 h)
  have hhigh := congrArg (fun v : BitVec 16 => v.extractLsb' 8 8) hword
  simpa only [extractLsb'_high] using hhigh

theorem foldl_crcStep_injective (bs : Bytes) : Function.Injective fun c => bs.foldl crcStep c := by
  induction bs with
  | nil => exact fun _ _ h => h
  | cons b bs ih => exact fun c d h => crcStep_injective_left b (ih h)

/-- One changed byte changes the CRC (41_crc16.md R157). -/
theorem crc16_set_ne {bs : Bytes} {j : Nat} {b : Byte} (hj : j < bs.length) (hb : bs[j]? ≠ some b) :
    crc16 (bs.set j b) ≠ crc16 bs := by
  have hsplit : bs = bs.take j ++ bs[j] :: bs.drop (j + 1) := by
    rw [List.getElem_cons_drop, List.take_append_drop]
  rw [List.set_eq_take_append_cons_drop, if_pos hj]
  intro h
  rw [crc16_append] at h
  conv at h => rhs; rw [hsplit]
  rw [crc16_append] at h
  have hstep := foldl_crcStep_injective (bs.drop (j + 1)) h
  have hbyte := crcStep_injective_right _ hstep
  exact hb (by rw [List.getElem?_eq_getElem hj, hbyte])

/-- A corrupted byte behind the magic other than the length byte leaves a frame of the same length. -/
theorem set_frameBody (src dst : Byte) (payload : Bytes) {j : Nat} (b : Byte) (h2 : 2 ≤ j) (h4 : j ≠ 4) :
    ∃ src' dst' payload', List.length payload' = payload.length ∧
      (frameHeader src dst payload.length ++ payload).set j b =
        frameHeader src' dst' payload.length ++ payload' := by
  match j, h2, h4 with
  | 2, _, _ => exact ⟨b, dst, payload, rfl, rfl⟩
  | 3, _, _ => exact ⟨src, b, payload, rfl, rfl⟩
  | k + 5, _, _ => exact ⟨src, dst, payload.set k b, List.length_set, rfl⟩

/-- A frame whose CRC is right, one byte of it corrupted behind the magic and not the length byte, is a
frame of the same length whose CRC is wrong (41_crc16.md R157). -/
theorem set_wireFrame (src dst : Byte) (payload : Bytes) {j : Nat} {b : Byte}
    (hj : j < 7 + payload.length) (h2 : 2 ≤ j) (h4 : j ≠ 4)
    (hb : (wireFrame src dst payload (frameCrc src dst payload))[j]? ≠ some b) :
    ∃ src' dst' payload' crc', List.length payload' = payload.length ∧
      (wireFrame src dst payload (frameCrc src dst payload)).set j b = wireFrame src' dst' payload' crc' ∧
      frameCrc src' dst' payload' ≠ crc' := by
  have hlen : (frameHeader src dst payload.length ++ payload).length = 5 + payload.length := by
    simp [frameHeader]
    omega
  by_cases hbody : j < 5 + payload.length
  · obtain ⟨src', dst', payload', hlen', hset⟩ := set_frameBody src dst payload b h2 h4
    refine ⟨src', dst', payload', frameCrc src dst payload, hlen', ?_, ?_⟩
    · rw [wireFrame, List.set_append_left _ _ (by omega), hset, wireFrame, hlen']
    · rw [wireFrame, List.getElem?_append_left (by omega)] at hb
      rw [frameCrc, hlen', ← hset]
      exact crc16_set_ne (by omega) hb
  · rw [wireFrame, List.getElem?_append_right (by omega), hlen] at hb
    have hsplit : ∀ crc', (frameHeader src dst payload.length ++ payload) ++
        ([(frameCrc src dst payload).extractLsb' 0 8, (frameCrc src dst payload).extractLsb' 8 8].set
          (j - (5 + payload.length)) b) = wireFrame src dst payload crc' →
        (wireFrame src dst payload (frameCrc src dst payload)).set j b =
          wireFrame src dst payload crc' := fun crc' h => by
      rw [wireFrame, List.set_append_right _ _ (by omega), hlen, h]
    obtain hlow | hhigh : j - (5 + payload.length) = 0 ∨ j - (5 + payload.length) = 1 := by omega
    · rw [hlow] at hb hsplit
      refine ⟨src, dst, payload, le16 b ((frameCrc src dst payload).extractLsb' 8 8), rfl,
        hsplit _ ?_, fun h => hb ?_⟩
      · rw [wireFrame, le16, extractLsb'_low, extractLsb'_high]
        rfl
      · conv_lhs => rw [h, le16, extractLsb'_low]
        rfl
    · rw [hhigh] at hb hsplit
      refine ⟨src, dst, payload, le16 ((frameCrc src dst payload).extractLsb' 0 8) b, rfl,
        hsplit _ ?_, fun h => hb ?_⟩
      · rw [wireFrame, le16, extractLsb'_low, extractLsb'_high]
        rfl
      · conv_lhs => rw [h, le16, extractLsb'_high]
        rfl

/-- A frame with a wrong CRC is BAD_CRC, or reported with `crc_ok = 0` (42_frame_codec.md R173). -/
theorem exec_frameDec_badCrc {s : State} (h : s.CanIssue) {src dst : Byte} {payload : Bytes}
    {crc : BitVec 16} (hl : payload.length ≤ 255) (hcrc : frameCrc src dst payload ≠ crc) :
    ∃ t, exec (.frameDec (wireFrame src dst payload crc)) s = .next t ∧
      (s.crcEnforce = true → t.results = s.results ++ [(s.issuer, .resyncFault .badCrc)]) ∧
      (s.crcEnforce = false →
        ∃ f, t.results = s.results ++ [(s.issuer, .decoded f (7 + payload.length))] ∧
          f.crcOk = false) := by
  have he := exec_frameDec_wireFrame h src dst crc [] hl
  rw [List.append_nil] at he
  refine ⟨_, he, fun henforce => ?_, fun henforce => ⟨reportedFrame src dst payload crc, ?_, ?_⟩⟩
  · rw [if_pos ⟨henforce, hcrc⟩]
    rfl
  · rw [if_neg (by simp [henforce])]
    rfl
  · exact decide_eq_false hcrc

/-- FRAME_DEC completes on any bytes (42_frame_codec.md R170). -/
theorem exists_exec_frameDec {s : State} (h : s.CanIssue) (data : Bytes) :
    ∃ t, exec (.frameDec data) s = .next t := by
  cases hd : deframe data with
  | incomplete => exact ⟨_, exec_frameDec_of_incomplete h hd⟩
  | badMagic => exact ⟨_, exec_frameDec_of_badMagic h hd⟩
  | whole f c => exact ⟨_, exec_frameDec_of_whole h hd⟩

/-- Settles O11, by where the corrupted byte stands: the magic, the length byte, or what the CRC guards. -/
theorem corruptByteIsDetected : Obligations.CorruptByteIsDetected := by
  unfold Obligations.CorruptByteIsDetected
  intro rr src dst payload j b s h hl hj hb
  rw [sentFrame] at hb ⊢
  generalize BitVec.ofBool rr ++ src = sb at *
  generalize 0#1 ++ dst = db at *
  obtain rfl | rfl | rfl | ⟨h2, h4⟩ : j = 0 ∨ j = 1 ∨ j = 4 ∨ 2 ≤ j ∧ j ≠ 4 := by omega
  · have hm : ¬ (b = 0x54 ∧ (0xAB : Byte) = 0xAB) := fun hm => hb (congrArg some hm.1.symm)
    exact ⟨_, exec_frameDec_of_badMagic h (deframe_badMagic hm), fun _ => rfl, nofun, nofun, nofun⟩
  · have hm : ¬ ((0x54 : Byte) = 0x54 ∧ b = 0xAB) := fun hm => hb (congrArg some hm.2.symm)
    exact ⟨_, exec_frameDec_of_badMagic h (deframe_badMagic hm), fun _ => rfl, nofun, by omega, by omega⟩
  · obtain ⟨t, ht⟩ := exists_exec_frameDec h ((wireFrame sb db payload (frameCrc sb db payload)).set 4 b)
    refine ⟨t, ht, by omega, fun _ hlong => ?_, fun _ h4 => absurd rfl h4, fun _ h4 => absurd rfl h4⟩
    have hshort : deframe ((wireFrame sb db payload (frameCrc sb db payload)).set 4 b) = .incomplete :=
      deframe_of_magic (by
        simp
        omega)
    exact Host.Outcome.next.inj (ht.symm.trans (exec_frameDec_of_incomplete h hshort))
  · obtain ⟨src', dst', payload', crc', hlen, hset, hcrc⟩ := set_wireFrame sb db payload hj h2 h4 hb
    obtain ⟨t, ht, henf, hopen⟩ := exec_frameDec_badCrc h (by omega) hcrc
    rw [hset]
    rw [hlen] at hopen
    exact ⟨t, ht, by omega, fun h4' => absurd h4' h4, fun _ _ => henf, fun _ _ => hopen⟩

end Sys2Proof.Machine
end

section
/-! VU_DEC on any bytes (40_varuint.md R134, R135): the scratch registers after `k` continued bytes, and the
three ways the loop ends. -/

namespace Sys2Proof.Machine

open Sys2Proof

/-- The scratch registers after the bytes `bs` (40_varuint.md R134; VU_SHIFT as log 14 reads it). -/
def VuRegs.ofGroups (bs : Bytes) : VuRegs :=
  ⟨BitVec.ofNat 35 (groupValue bs), BitVec.ofNat 6 (7 * bs.length), BitVec.ofNat 3 bs.length⟩

theorem groupValue_concat (bs : Bytes) (b : Byte) :
    groupValue (bs ++ [b]) = groupValue bs + 128 ^ bs.length * (b.setWidth 7).toNat := by
  induction bs with
  | nil => simp [groupValue]
  | cons c bs ih =>
    rw [List.cons_append, groupValue, groupValue, ih, List.length_cons, pow_succ]
    ring

theorem groupValue_lt_of_le {bs : Bytes} (h : bs.length ≤ 5) : groupValue bs < 2 ^ 35 :=
  (groupValue_lt bs).trans_le ((Nat.pow_le_pow_right (by decide) h).trans_eq (by decide))

section OfGroups

variable {bs : Bytes} (h : bs.length ≤ 5)
include h

theorem VuRegs.toNat_cnt_ofGroups : (VuRegs.ofGroups bs).cnt.toNat = bs.length :=
  (BitVec.toNat_ofNat ..).trans (Nat.mod_eq_of_lt (by omega))

theorem VuRegs.toNat_shift_ofGroups : (VuRegs.ofGroups bs).shift.toNat = 7 * bs.length :=
  (BitVec.toNat_ofNat ..).trans (Nat.mod_eq_of_lt (by omega))

theorem VuRegs.toNat_acc_ofGroups : (VuRegs.ofGroups bs).acc.toNat = groupValue bs :=
  (BitVec.toNat_ofNat ..).trans (Nat.mod_eq_of_lt (groupValue_lt_of_le h))

theorem VuRegs.ofGroups_hasLeft : (VuRegs.ofGroups bs).HasLeft (5 - bs.length) where
  cnt := by rw [VuRegs.toNat_cnt_ofGroups h]; omega
  shift := by rw [VuRegs.toNat_shift_ofGroups h, VuRegs.toNat_cnt_ofGroups h]
  acc := by
    rw [VuRegs.toNat_acc_ofGroups h, VuRegs.toNat_cnt_ofGroups h]
    exact groupValue_lt bs

end OfGroups

theorem VuRegs.eq_of_toNat {r r' : VuRegs} (ha : r.acc.toNat = r'.acc.toNat)
    (hs : r.shift.toNat = r'.shift.toNat) (hc : r.cnt.toNat = r'.cnt.toNat) : r = r' := by
  cases r
  cases r'
  rw [VuRegs.mk.injEq]
  exact ⟨BitVec.eq_of_toNat_eq ha, BitVec.eq_of_toNat_eq hs, BitVec.eq_of_toNat_eq hc⟩

theorem VuRegs.afterByte_ofGroups {bs : Bytes} (h : bs.length < 5) (b : Byte) :
    (VuRegs.ofGroups bs).afterByte b = VuRegs.ofGroups (bs ++ [b]) := by
  have hleft := VuRegs.ofGroups_hasLeft h.le
  obtain ⟨n, hn⟩ : ∃ n, 5 - bs.length = n + 1 := ⟨4 - bs.length, by omega⟩
  rw [hn] at hleft
  have hlen : (bs ++ [b]).length = bs.length + 1 := List.length_append
  have hle : (bs ++ [b]).length ≤ 5 := by omega
  refine VuRegs.eq_of_toNat ?_ ?_ ?_
  · rw [hleft.acc_afterByte, VuRegs.toNat_acc_ofGroups hle, VuRegs.toNat_acc_ofGroups h.le,
      VuRegs.toNat_cnt_ofGroups h.le, groupValue_concat]
  · rw [hleft.shift_afterByte, VuRegs.toNat_shift_ofGroups hle, VuRegs.toNat_shift_ofGroups h.le, hlen]
    omega
  · rw [hleft.cnt_afterByte, VuRegs.toNat_cnt_ofGroups hle, VuRegs.toNat_cnt_ofGroups h.le, hlen]

/-- The loop reads the source from its index on only. -/
theorem vuDecLoop_drop (n : Nat) (src : Bytes) (i : Nat) (r : VuRegs) :
    vuDecLoop n src i r = vuDecLoop n (src.drop i) 0 r := by
  induction n generalizing r with
  | zero => rfl
  | succ n ih =>
    simp only [vuDecLoop, List.getElem?_drop, Nat.zero_add, ih]

theorem vuDec_drop (src : Bytes) (i : Nat) : vuDec src i = vuDec (src.drop i) 0 :=
  vuDecLoop_drop 5 src i VuRegs.zero

section Continued

variable {src : Bytes} {k : Nat} (hk : k ≤ 5) (hl : k ≤ src.length)
  (hmore : ∀ j < k, ∀ b ∈ src[j]?, b.msb = true)
include hk hl hmore

/-- `k` continued bytes leave the loop with their groups and the rest of its five bytes. -/
theorem vuDec_of_continued :
    vuDec src 0 = vuDecLoop (5 - k) src 0 (VuRegs.ofGroups (src.take k)) := by
  induction k with
  | zero => rfl
  | succ k ih =>
    have hlen : (src.take k).length = k := List.length_take_of_le (by omega)
    have hle : (src.take k).length ≤ 5 := by omega
    have hbyte : src[0 + (VuRegs.ofGroups (src.take k)).cnt.toNat]? = some src[k] := by
      rw [VuRegs.toNat_cnt_ofGroups hle, hlen, Nat.zero_add, List.getElem?_eq_getElem]
    have hleft := VuRegs.ofGroups_hasLeft hle
    rw [hlen, show 5 - k = 5 - (k + 1) + 1 by omega] at hleft
    rw [ih (by omega) (by omega) fun j hj => hmore j (by omega),
      show 5 - k = 5 - (k + 1) + 1 by omega,
      vuDecLoop_succ_of_more hleft hbyte (hmore k (by omega) _ (List.getElem?_eq_getElem (by omega))),
      VuRegs.afterByte_ofGroups (by omega), List.take_concat_get']

omit hl in
theorem vuDec_of_last {b : Byte} (h5 : k < 5) (hb : src[k]? = some b) (hlast : b.msb = false) :
    vuDec src 0 = (.value (BitVec.ofNat 35 (groupValue (src.take (k + 1)))) (k + 1),
      VuRegs.ofGroups (src.take (k + 1))) := by
  obtain ⟨hl, rfl⟩ := List.getElem?_eq_some_iff.mp hb
  have hlen : (src.take k).length = k := List.length_take_of_le hl.le
  have hlen1 : (src.take (k + 1)).length = k + 1 := List.length_take_of_le hl
  have hbyte : src[0 + (VuRegs.ofGroups (src.take k)).cnt.toNat]? = some src[k] := by
    rw [VuRegs.toNat_cnt_ofGroups (by omega), hlen, Nat.zero_add, List.getElem?_eq_getElem]
  have hafter : (VuRegs.ofGroups (src.take k)).afterByte src[k] = VuRegs.ofGroups (src.take (k + 1)) := by
    rw [VuRegs.afterByte_ofGroups (by omega), List.take_concat_get']
  rw [vuDec_of_continued hk hl.le hmore, show 5 - k = 5 - (k + 1) + 1 by omega,
    vuDecLoop_succ_of_last hbyte hlast, hafter, VuRegs.toNat_cnt_ofGroups (by omega), hlen1]
  rfl

omit hl in
theorem vuDec_of_end (h5 : k < 5) (hend : src.length = k) :
    vuDec src 0 = (if k = 0 then .noData else .truncated, VuRegs.ofGroups src) := by
  have hcnt : (VuRegs.ofGroups src).cnt.toNat = k := by
    rw [VuRegs.toNat_cnt_ofGroups (by omega), hend]
  have hzero : ((VuRegs.ofGroups src).cnt = 0) = (k = 0) := by
    rw [← hcnt]
    exact propext ⟨fun h => congrArg BitVec.toNat h, fun h => BitVec.eq_of_toNat_eq h⟩
  have hnone : src[0 + (VuRegs.ofGroups src).cnt.toNat]? = none := by
    rw [hcnt, Nat.zero_add]
    exact List.getElem?_eq_none hend.le
  rw [vuDec_of_continued hk hend.ge hmore, List.take_of_length_le hend.le,
    show 5 - k = 5 - (k + 1) + 1 by omega, vuDecLoop_succ_of_none hnone]
  simp only [hzero]

end Continued

theorem vuDec_of_overlong {src : Bytes} (hl : 5 ≤ src.length)
    (hmore : ∀ j < 5, ∀ b ∈ src[j]?, b.msb = true) :
    vuDec src 0 = (.overlong, VuRegs.ofGroups (src.take 5)) :=
  vuDec_of_continued (le_refl 5) hl hmore

/-- Settles O8, by the byte that ends the loop: a last one, none, or the fifth continued one. -/
theorem vuDecReadsTheGroups : Obligations.VuDecReadsTheGroups := by
  unfold Obligations.VuDecReadsTheGroups
  refine ⟨fun src k s h hmore => ⟨fun b h5 hb hlast => ?_, fun h5 hend => ?_, fun h5 hl => ?_⟩,
    vuDec_drop⟩
  · have hrun := vuDec_of_last h5.le hmore h5 hb hlast
    have hlen : (src.take (k + 1)).length = k + 1 :=
      List.length_take_of_le (List.getElem?_eq_some_iff.mp hb).1
    obtain ⟨_, -, he⟩ := onCommand_of_canIssue h fun r _ =>
      { s with vu := (vuDec src 0).2 }.retVarint (vuDec src 0).1 r
    refine ⟨_, he, ?_, ?_⟩
    · rw [hrun, VuRegs.ofGroups, hlen]
      rfl
    · rw [hrun]
      intro x a n
      cases x <;> rfl
  · have hrun := vuDec_of_end h5.le hmore h5 hend
    obtain ⟨_, -, he⟩ := onCommand_of_canIssue h fun r _ =>
      { s with vu := (vuDec src 0).2 }.retVarint (vuDec src 0).1 r
    refine ⟨_, he, ?_, ?_⟩
    · rw [hrun, VuRegs.ofGroups, hend]
      cases k <;> rfl
    · rw [hrun]
      intro x a n
      cases k <;> cases x <;> rfl
  · subst h5
    have hrun := vuDec_of_overlong hl hmore
    have hlen : (src.take 5).length = 5 := List.length_take_of_le hl
    obtain ⟨_, -, he⟩ := onCommand_of_canIssue h fun r _ =>
      { s with vu := (vuDec src 0).2 }.retVarint (vuDec src 0).1 r
    refine ⟨_, he, ?_, ?_⟩
    · rw [hrun, VuRegs.ofGroups, hlen]
      exact State.raise_eq_faulted .varuintOverlong h.2.1
    · rw [hrun]
      intro x a n
      cases x <;> rfl

end Sys2Proof.Machine
end

section
/-! What the field readers give for the bytes an encoder writes (45_register_reply_decoder.md R267): each
field's bytes are read back and the cursor moves behind them, whatever follows. -/

namespace Sys2Proof.Machine

open Sys2Proof

/-- The bytes from the cursor on. -/
structure Sees (rd : Reader) (bs : Bytes) : Prop where
  drop : rd.pay.drop rd.cur = bs
  cur : rd.cur ≤ rd.pay.length

theorem Sees.length {rd : Reader} {bs : Bytes} (h : Sees rd bs) :
    rd.pay.length = rd.cur + bs.length := by
  have hlen := congrArg List.length h.drop
  rw [List.length_drop] at hlen
  have := h.cur
  omega

/-- Behind a field the reader sees what follows it. -/
theorem Sees.advance {rd : Reader} {bs rest : Bytes} (h : Sees rd (bs ++ rest)) (vu : VuRegs) :
    Sees ⟨rd.pay, rd.cur + bs.length, vu⟩ rest where
  drop := by rw [← List.drop_drop, h.drop, List.drop_left]
  cur := by
    have hlen := h.length
    rw [List.length_append] at hlen
    exact (by omega : rd.cur + bs.length ≤ rd.pay.length)

theorem sees_append (pre tail : Bytes) (vu : VuRegs) : Sees ⟨pre ++ tail, pre.length, vu⟩ tail where
  drop := List.drop_left
  cur := by simp

theorem sees_start (bs : Bytes) : Sees (Reader.start bs) bs := sees_append [] bs VuRegs.zero

/-- The reader `p` gives `a` for the bytes `bs` when `rest` follows them. -/
def Gives {α : Type} (p : Reader → Read α) (bs rest : Bytes) (a : α) : Prop :=
  ∀ rd, Sees rd (bs ++ rest) → ∃ vu, p rd = (.ok a, ⟨rd.pay, rd.cur + bs.length, vu⟩)

/-- One field after another. -/
theorem Gives.bind {α β : Type} {p : Reader → Read α} {f : α → Reader → Read β} {bs cs rest : Bytes}
    {a : α} {b : β} (hp : Gives p bs (cs ++ rest) a) (hf : Gives (f a) cs rest b) :
    Gives (fun rd => (p rd).bind f) (bs ++ cs) rest b := by
  intro rd h
  rw [List.append_assoc] at h
  obtain ⟨vu, hread⟩ := hp rd h
  obtain ⟨vu', hread'⟩ := hf _ (h.advance vu)
  refine ⟨vu', ?_⟩
  rw [List.length_append, ← Nat.add_assoc]
  exact (congrArg (Read.bind · f) hread).trans hread'

/-- The last field, and the answer made of it. -/
theorem Gives.map {α β : Type} {p : Reader → Read α} {bs rest : Bytes} {a : α} (g : α → β)
    (hp : Gives p bs rest a) : Gives (fun rd => (p rd).bind fun a rd => (.ok (g a), rd)) bs rest (g a) := by
  intro rd h
  obtain ⟨vu, hread⟩ := hp rd h
  exact ⟨vu, congrArg (Read.bind · fun a rd => (.ok (g a), rd)) hread⟩

/-! ### Varuints -/

theorem vuDec_vuEnc35_prefix {src : Bytes} {i : Nat} {v : VuValue} {rest : Bytes}
    (h : src.drop i = vuEnc35 v ++ rest) : (vuDec src i).1 = .value v (vuEnc35 v).length :=
  (vuDec_value_iff src i v _).mpr ⟨vuEnc35 v, h ▸ List.prefix_append _ _, vuEnc35_isVaruint v,
    length_vuEnc35_le v, rfl, (groupValue_vuEnc35 v).symm⟩

theorem rdVu_of_value {rd : Reader} {v : VuValue} {n : Nat}
    (h : (vuDec rd.pay rd.cur).1 = .value v n) :
    rdVu rd = (.ok v, ⟨rd.pay, rd.cur + n, (vuDec rd.pay rd.cur).2⟩) := by
  rcases hd : vuDec rd.pay rd.cur with ⟨res, vu⟩
  rw [hd] at h
  obtain rfl : res = .value v n := h
  simp only [rdVu, hd]

theorem rdVu_of_ends {rd : Reader} (h : VuEnds rd.pay rd.cur) :
    rdVu rd = (.error .truncated, ⟨rd.pay, rd.cur, (vuDec rd.pay rd.cur).2⟩) := by
  rcases hd : vuDec rd.pay rd.cur with ⟨res, vu⟩
  rw [VuEnds, hd] at h
  obtain rfl | rfl : res = .noData ∨ res = .truncated := h
  · simp only [rdVu, hd]
  · simp only [rdVu, hd]

theorem rdVu_of_overlong {rd : Reader} (h : (vuDec rd.pay rd.cur).1 = .overlong) :
    rdVu rd = (.error .overlong, ⟨rd.pay, rd.cur, (vuDec rd.pay rd.cur).2⟩) := by
  rcases hd : vuDec rd.pay rd.cur with ⟨res, vu⟩
  rw [hd] at h
  obtain rfl : res = .overlong := h
  simp only [rdVu, hd]

theorem rdDisc_of_value {rd : Reader} {v : VuValue} {n : Nat}
    (h : (vuDec rd.pay rd.cur).1 = .value v n) :
    rdDisc rd = (.ok v, ⟨rd.pay, rd.cur + n, (vuDec rd.pay rd.cur).2⟩) := by
  rcases hd : vuDec rd.pay rd.cur with ⟨res, vu⟩
  rw [hd] at h
  obtain rfl : res = .value v n := h
  simp only [rdDisc, hd]

theorem rdVu_gives (v : VuValue) (rest : Bytes) : Gives rdVu (vuEnc35 v) rest v :=
  fun _ h => ⟨_, rdVu_of_value (vuDec_vuEnc35_prefix h.drop)⟩

theorem rdU32_gives (v : U32) (rest : Bytes) : Gives rdU32 (vuEnc v) rest v := by
  intro rd h
  obtain ⟨vu, hread⟩ := rdVu_gives (v.setWidth 35) rest rd h
  have hlt : (v.setWidth 35).toNat < 2 ^ 32 := by
    rw [BitVec.toNat_setWidth]
    omega
  have hback : (v.setWidth 35).setWidth 32 = v := by simp
  refine ⟨vu, ?_⟩
  rw [rdU32, hread]
  exact (if_pos hlt).trans (by rw [hback]; rfl)

/-! ### Bytes and values -/

theorem rdBytes_gives (bs rest : Bytes) : Gives (rdBytes bs.length) bs rest bs := by
  intro rd h
  have hlen := h.length
  rw [List.length_append] at hlen
  refine ⟨rd.vu, ?_⟩
  rw [rdBytes, if_pos (by omega), h.drop, List.take_left]

theorem rdBytes_of_short {rd : Reader} {n : Nat} {bs : Bytes} (h : Sees rd bs) (hn : bs.length < n) :
    rdBytes n rd = (.error .truncated, rd) :=
  if_neg (by rw [h.length]; omega)

theorem rdVal_gives {t : TypeTag} {bs : Bytes} (h : bs.length = t.width) (rest : Bytes) :
    Gives (rdVal t) bs rest (TV.ofBytes t bs) :=
  Gives.map (TV.ofBytes t) (h ▸ rdBytes_gives bs rest)

theorem rdVal_of_short {rd : Reader} {t : TypeTag} {bs : Bytes} (h : Sees rd bs)
    (hn : bs.length < t.width) : rdVal t rd = (.error .truncated, rd) := by
  rw [rdVal, rdBytes_of_short h hn]
  rfl

theorem width_pos (t : TypeTag) : 0 < t.width := by
  cases t <;> decide

/-- The values of a multiple sub-frame: as many as are counted, or all that are there whole
(45_register_reply_decoder.md R278). -/
theorem rdVals_eq {t : TypeTag} {chunks : List Bytes} (hw : ∀ c ∈ chunks, List.length c = t.width)
    {rest : Bytes} {n count : Nat} {rd : Reader} (h : Sees rd (chunks.flatten ++ rest))
    (hn : chunks.length ≤ n)
    (hcount : chunks.length = count ∨ chunks.length < count ∧ rest.length < t.width) :
    rdVals t n count rd =
      (chunks.map (TV.ofBytes t), ⟨rd.pay, rd.cur + chunks.flatten.length, rd.vu⟩) := by
  induction chunks generalizing n count rd with
  | nil =>
    cases n with
    | zero => rfl
    | succ n =>
      cases count with
      | zero => rfl
      | succ count =>
        obtain hzero | ⟨-, hrest⟩ := hcount
        · cases hzero
        · rw [rdVals, rdVal_of_short h hrest]
          rfl
  | cons c chunks ih =>
    rw [List.flatten_cons, List.append_assoc] at h
    have hlen : c.length = t.width := hw c List.mem_cons_self
    rw [List.length_cons] at hn hcount
    obtain ⟨n, rfl⟩ : ∃ m, n = m + 1 := ⟨n - 1, by omega⟩
    obtain ⟨count, rfl⟩ : ∃ m, count = m + 1 := ⟨count - 1, by omega⟩
    have hread : rdVal t rd = (.ok (TV.ofBytes t c), ⟨rd.pay, rd.cur + c.length, rd.vu⟩) := by
      have hle := h.length
      rw [List.length_append] at hle
      rw [rdVal, rdBytes, ← hlen, if_pos (by omega), h.drop, List.take_left]
      rfl
    have hrest := ih (fun c hc => hw c (List.mem_cons_of_mem _ hc)) (h.advance rd.vu)
      (n := n) (count := count) (by omega) (by omega)
    simp only [rdVals, hread, hrest, List.map_cons, List.flatten_cons, List.length_append, Nat.add_assoc]

theorem length_flatten_chunks {w : Nat} {chunks : List Bytes} (hw : ∀ c ∈ chunks, List.length c = w) :
    chunks.flatten.length = chunks.length * w := by
  induction chunks with
  | nil => simp
  | cons c chunks ih =>
    rw [List.flatten_cons, List.length_append, hw c List.mem_cons_self,
      ih fun c hc => hw c (List.mem_cons_of_mem _ hc), List.length_cons, Nat.succ_mul, Nat.add_comm]

/-- Values that are all there, and are all of one type, are read back. -/
theorem rdVals_bytes {t : TypeTag} {vals : List TV} (ht : ∀ v ∈ vals, TV.tag v = t) {rest : Bytes}
    {count : Nat} {rd : Reader} (h : Sees rd (vals.flatMap TV.bytes ++ rest))
    (hcount : vals.length = count ∨ vals.length < count ∧ rest = []) :
    rdVals t rd.pay.length count rd =
      (vals, ⟨rd.pay, rd.cur + (vals.flatMap TV.bytes).length, rd.vu⟩) := by
  have hw : ∀ c ∈ vals.map TV.bytes, List.length c = t.width := by
    intro c hc
    obtain ⟨v, hv, rfl⟩ := List.mem_map.mp hc
    rw [v.length_bytes, ht v hv]
  have hsees : Sees rd ((vals.map TV.bytes).flatten ++ rest) := by rwa [← List.flatMap_def]
  have hfuel : (vals.map TV.bytes).length ≤ rd.pay.length := by
    have hlen := hsees.length
    rw [List.length_append, length_flatten_chunks hw] at hlen
    have := Nat.le_mul_of_pos_right (vals.map TV.bytes).length (width_pos t)
    omega
  have hall : (vals.map TV.bytes).map (TV.ofBytes t) = vals := by
    rw [List.map_map]
    refine (List.map_congr_left fun v hv => ?_).trans (List.map_id vals)
    exact ht v hv ▸ v.ofBytes_bytes
  have hread := rdVals_eq hw hsees hfuel (count := count) (by
    rw [List.length_map]
    refine hcount.imp id fun ⟨hlt, hnil⟩ => ⟨hlt, ?_⟩
    rw [hnil]
    exact width_pos t)
  rwa [hall, ← List.flatMap_def] at hread

/-! ### The fields of each family (30_encoding.md R99) -/

section Families

variable (rest : Bytes) (t : TypeTag) (reg : VuValue) (start : U32)

theorem decodeFields_writeSingle (v : TV) :
    Gives (decodeFields (.writeSingle v.tag)) (vuEnc start ++ v.bytes) rest (.writeSingle start v) := by
  have hv := Gives.map (Instr.writeSingle start) (rdVal_gives v.length_bytes rest)
  rw [v.ofBytes_bytes] at hv
  exact (rdU32_gives start _).bind hv

theorem decodeFields_readSingle :
    Gives (decodeFields (.readSingle t)) (vuEnc start) rest (.readSingle t start) :=
  (rdU32_gives start rest).map (Instr.readSingle t)

theorem decodeFields_readMultiple (count : U32) :
    Gives (decodeFields (.readMultiple t)) (vuEnc start ++ vuEnc count) rest
      (.readMultiple t start count) :=
  (rdU32_gives start _).bind ((rdU32_gives count rest).map (Instr.readMultiple t start))

theorem vuCount_eq {n : Nat} (h : n < 2 ^ 32) : vuCount n = vuEnc (BitVec.ofNat 32 n) := by
  rw [vuCount, vuEnc]
  congr 1
  apply BitVec.eq_of_toNat_eq
  rw [BitVec.toNat_setWidth, BitVec.toNat_ofNat, BitVec.toNat_ofNat]
  omega

theorem decodeFields_writeMultiple {vals : List TV} (ht : ∀ v ∈ vals, TV.tag v = t)
    (hl : vals.length < 2 ^ 32) :
    Gives (decodeFields (.writeMultiple t)) (vuEnc start ++ vuCount vals.length ++ vals.flatMap TV.bytes)
      rest (.writeMultiple t start vals) := by
  rw [vuCount_eq hl, List.append_assoc]
  refine (rdU32_gives start _).bind ((rdU32_gives _ _).bind fun rd h => ⟨rd.vu, ?_⟩)
  have hcount : (BitVec.ofNat 32 vals.length).toNat = vals.length := Nat.mod_eq_of_lt hl
  rw [hcount]
  simp only [rdVals_bytes ht h (.inl rfl), if_true]

theorem decodeFields_replySingle (v : TV) :
    Gives (decodeFields (.replySingle v.tag)) (vuEnc35 reg ++ v.bytes) rest (.replySingle reg v) := by
  have hv := Gives.map (Instr.replySingle reg) (rdVal_gives v.length_bytes rest)
  rw [v.ofBytes_bytes] at hv
  exact (rdVu_gives reg _).bind hv

theorem decodeFields_replyMultiple {count : VuValue} {vals : List TV} (ht : ∀ v ∈ vals, TV.tag v = t)
    (hcount : vals.length = count.toNat ∨ vals.length < count.toNat ∧ rest = []) :
    Gives (decodeFields (.replyMultiple t)) (vuEnc35 reg ++ vuEnc35 count ++ vals.flatMap TV.bytes)
      rest (.replyMultiple t reg count vals) := by
  rw [List.append_assoc]
  refine (rdVu_gives reg _).bind ((rdVu_gives count _).bind fun rd h => ⟨rd.vu, ?_⟩)
  simp only [rdVals_bytes ht h hcount]

theorem decodeFields_error (code : VuValue) :
    Gives (decodeFields .writeError) (vuEnc35 reg ++ vuEnc35 code) rest (.writeError reg code) ∧
      Gives (decodeFields .readError) (vuEnc35 reg ++ vuEnc35 code) rest (.readError reg code) :=
  ⟨(rdVu_gives reg _).bind ((rdVu_gives code rest).map (Instr.writeError reg)),
    (rdVu_gives reg _).bind ((rdVu_gives code rest).map (Instr.readError reg))⟩

theorem decodeFields_streamC2s {data : Bytes} (hl : data.length < 2 ^ 32) :
    Gives (decodeFields .streamC2s) (vuEnc start ++ vuCount data.length ++ data) rest
      (.streamC2s start data) := by
  rw [vuCount_eq hl, List.append_assoc]
  have hlen : (BitVec.ofNat 32 data.length).toNat = data.length := Nat.mod_eq_of_lt hl
  have hdata := (rdBytes_gives data rest).map (Instr.streamC2s start)
  rw [← hlen] at hdata
  exact (rdU32_gives start _).bind ((rdU32_gives _ _).bind hdata)

theorem decodeFields_streamS2c {data : Bytes} (hl : data.length < 2 ^ 35) :
    Gives (decodeFields .streamS2c) (vuEnc35 reg ++ vuCount data.length ++ data) rest
      (.streamS2c reg data) := by
  rw [vuCount, List.append_assoc]
  have hlen : (BitVec.ofNat 35 data.length).toNat = data.length := Nat.mod_eq_of_lt hl
  have hdata := (rdBytes_gives data rest).map (Instr.streamS2c reg)
  rw [← hlen] at hdata
  exact (rdVu_gives reg _).bind ((rdVu_gives _ _).bind hdata)

end Families

/-! ### The sub-frames -/

theorem ofCode_code (k : SubKind) : SubKind.ofCode k.code.toNat = some k := by
  cases k with
  | writeSingle t | writeMultiple t | readSingle t | readMultiple t | replySingle t | replyMultiple t =>
    cases t <;> rfl
  | writeError | readError | streamC2s | streamS2c => rfl

theorem msb_code (k : SubKind) : k.code.msb = false := by
  cases k with
  | writeSingle t | writeMultiple t | readSingle t | readMultiple t | replySingle t | replyMultiple t =>
    cases t <;> rfl
  | writeError | readError | streamC2s | streamS2c => rfl

/-- A code is one byte of varuint (30_encoding.md R98). -/
theorem rdDisc_code (k : SubKind) (rest : Bytes) : Gives rdDisc [k.code] rest (k.code.setWidth 35) := by
  intro rd h
  refine ⟨_, rdDisc_of_value ((vuDec_value_iff _ _ _ _).mpr ⟨[k.code], ?_, ?_, by simp, rfl, ?_⟩)⟩
  · rw [h.drop]
    exact List.prefix_append _ _
  · simp [IsVaruint, msb_code k]
  · have hm := msb_code k
    have hlt : k.code.toNat < 128 := by
      rw [BitVec.msb_eq_decide] at hm
      simpa using hm
    simp [groupValue]
    omega

theorem toNat_code_setWidth (k : SubKind) : (k.code.setWidth 35).toNat = k.code.toNat := by
  rw [BitVec.toNat_setWidth]
  omega

/-- The sub-frame `i` is the code of `k` and fields from which `k`'s reader gives `i` again; a
REPLY_MULTIPLE cut short only when nothing follows (45_register_reply_decoder.md R278). -/
def IsSubframe (i : Instr) (k : SubKind) (fields : Bytes) : Prop :=
  encode i = k.code :: fields ∧ k.isReply = isRegisterReply i ∧
    ∀ rest, replyShort i = false ∨ rest = [] → Gives (decodeFields k) fields rest i

theorem map_setWidth_i8 (bs : List (BitVec 8)) :
    (bs.map TV.i8).map (fun v => v.pattern.setWidth 8) = bs := by
  rw [List.map_map]
  exact (List.map_congr_left fun b _ => by simp [TV.pattern]).trans (List.map_id bs)

theorem map_setWidth_i16 (bs : List (BitVec 16)) :
    (bs.map TV.i16).map (fun v => v.pattern.setWidth 16) = bs := by
  rw [List.map_map]
  exact (List.map_congr_left fun b _ => by simp [TV.pattern]).trans (List.map_id bs)

theorem map_pattern_i32 (bs : List (BitVec 32)) : (bs.map TV.i32).map TV.pattern = bs := by
  rw [List.map_map]
  exact List.map_id bs

theorem map_pattern_f32 (bs : List (BitVec 32)) : (bs.map TV.f32).map TV.pattern = bs := by
  rw [List.map_map]
  exact List.map_id bs

theorem flatMap_bytes_i8 (bs : List (BitVec 8)) : (bs.map TV.i8).flatMap TV.bytes = bs := by
  rw [List.flatMap_map]
  exact List.flatMap_singleton' bs

theorem tag_of_mem_map {α : Type} {mk : α → TV} {t : TypeTag} (h : ∀ a, (mk a).tag = t) (as : List α) :
    ∀ v ∈ as.map mk, v.tag = t := by
  intro v hv
  obtain ⟨a, -, rfl⟩ := List.mem_map.mp hv
  exact h a

/-- A REPLY_MULTIPLE has as many values as it counts, or fewer and nothing behind them. -/
theorem count_of_short {n count : Nat} {rest : Bytes} (hle : n ≤ count)
    (h : decide (n < count) = false ∨ rest = []) : n = count ∨ n < count ∧ rest = [] := by
  obtain hshort | hnil := h
  · exact .inl (by have := of_decide_eq_false hshort; omega)
  · exact hle.eq_or_lt.imp id fun hlt => ⟨hlt, hnil⟩

theorem isSubframe_writeMultiple {α : Type} {mk : α → TV} {i : Instr} {t : TypeTag} {start : U32}
    {vals : List α} (ht : ∀ a, (mk a).tag = t) (hl : vals.length < 2 ^ 32)
    (hi : Instr.writeMultiple t start (vals.map mk) = i)
    (he : encode i = (SubKind.writeMultiple t).code ::
      (vuEnc start ++ vuCount vals.length ++ (vals.map mk).flatMap TV.bytes))
    (hreply : false = isRegisterReply i) :
    ∃ k fields, IsSubframe i k fields := by
  refine ⟨.writeMultiple t, _, he, hreply, fun rest _ => ?_⟩
  have hfields := decodeFields_writeMultiple rest t start (tag_of_mem_map ht vals)
    (by rwa [List.length_map])
  rwa [hi, List.length_map] at hfields

theorem isSubframe_replyMultiple {α : Type} {mk : α → TV} {i : Instr} {t : TypeTag}
    {start count : VuValue} {vals : List α} (ht : ∀ a, (mk a).tag = t)
    (hl : vals.length ≤ count.toNat)
    (hi : Instr.replyMultiple t start count (vals.map mk) = i)
    (he : encode i = (SubKind.replyMultiple t).code ::
      (vuEnc35 start ++ vuEnc35 count ++ (vals.map mk).flatMap TV.bytes))
    (hreply : true = isRegisterReply i)
    (hshort : replyShort i = decide (vals.length < count.toNat)) :
    ∃ k fields, IsSubframe i k fields := by
  refine ⟨.replyMultiple t, _, he, hreply, fun rest hrest => ?_⟩
  rw [hshort] at hrest
  have hfields := decodeFields_replyMultiple rest t start (count := count) (tag_of_mem_map ht vals)
    (by rw [List.length_map]; exact count_of_short hl hrest)
  rwa [hi] at hfields

end Sys2Proof.Machine
end

section
/-! Every sub-frame is its code and its fields (30_encoding.md R99, R103), so both decoders read it back. -/

namespace Sys2Proof.Machine

open Sys2Proof

/-- A sub-frame whose fields are read back whatever follows them. -/
theorem isSubframe_of_gives {i : Instr} {k : SubKind} {fields : Bytes}
    (he : encode i = k.code :: fields) (hreply : k.isReply = isRegisterReply i)
    (h : ∀ rest, Gives (decodeFields k) fields rest i) : ∃ k fields, IsSubframe i k fields :=
  ⟨k, fields, he, hreply, fun rest _ => h rest⟩

theorem exists_isSubframe {i : Instr} (hport : i.port = .subframe) (hwf : i.wf = true) :
    ∃ k fields, IsSubframe i k fields := by
  cases i with
  | writeSingleInt8 reg b =>
    exact isSubframe_of_gives rfl rfl fun rest => decodeFields_writeSingle rest reg (.i8 b)
  | writeSingleInt16 reg b =>
    exact isSubframe_of_gives rfl rfl fun rest => decodeFields_writeSingle rest reg (.i16 b)
  | writeSingleInt32 reg b =>
    exact isSubframe_of_gives rfl rfl fun rest => decodeFields_writeSingle rest reg (.i32 b)
  | writeSingleFloat reg b =>
    exact isSubframe_of_gives rfl rfl fun rest => decodeFields_writeSingle rest reg (.f32 b)
  | writeMultipleInt8 start vals =>
    refine isSubframe_writeMultiple (mk := TV.i8) (fun _ => rfl) (of_decide_eq_true hwf)
      (congrArg _ (map_setWidth_i8 vals)) ?_ rfl
    rw [flatMap_bytes_i8]
    rfl
  | writeMultipleInt16 start vals =>
    refine isSubframe_writeMultiple (mk := TV.i16) (fun _ => rfl) (of_decide_eq_true hwf)
      (congrArg _ (map_setWidth_i16 vals)) ?_ rfl
    rw [List.flatMap_map]
    rfl
  | writeMultipleInt32 start vals =>
    refine isSubframe_writeMultiple (mk := TV.i32) (fun _ => rfl) (of_decide_eq_true hwf)
      (congrArg _ (map_pattern_i32 vals)) ?_ rfl
    rw [List.flatMap_map]
    rfl
  | writeMultipleFloat start vals =>
    refine isSubframe_writeMultiple (mk := TV.f32) (fun _ => rfl) (of_decide_eq_true hwf)
      (congrArg _ (map_pattern_f32 vals)) ?_ rfl
    rw [List.flatMap_map]
    rfl
  | readSingleInt8 reg =>
    exact isSubframe_of_gives rfl rfl fun rest => decodeFields_readSingle rest .int8 reg
  | readSingleInt16 reg =>
    exact isSubframe_of_gives rfl rfl fun rest => decodeFields_readSingle rest .int16 reg
  | readSingleInt32 reg =>
    exact isSubframe_of_gives rfl rfl fun rest => decodeFields_readSingle rest .int32 reg
  | readSingleFloat reg =>
    exact isSubframe_of_gives rfl rfl fun rest => decodeFields_readSingle rest .float reg
  | readMultipleInt8 reg count =>
    exact isSubframe_of_gives rfl rfl fun rest => decodeFields_readMultiple rest .int8 reg count
  | readMultipleInt16 reg count =>
    exact isSubframe_of_gives rfl rfl fun rest => decodeFields_readMultiple rest .int16 reg count
  | readMultipleInt32 reg count =>
    exact isSubframe_of_gives rfl rfl fun rest => decodeFields_readMultiple rest .int32 reg count
  | readMultipleFloat reg count =>
    exact isSubframe_of_gives rfl rfl fun rest => decodeFields_readMultiple rest .float reg count
  | replySingleInt8 reg b =>
    exact isSubframe_of_gives rfl rfl fun rest => decodeFields_replySingle rest reg (.i8 b)
  | replySingleInt16 reg b =>
    exact isSubframe_of_gives rfl rfl fun rest => decodeFields_replySingle rest reg (.i16 b)
  | replySingleInt32 reg b =>
    exact isSubframe_of_gives rfl rfl fun rest => decodeFields_replySingle rest reg (.i32 b)
  | replySingleFloat reg b =>
    exact isSubframe_of_gives rfl rfl fun rest => decodeFields_replySingle rest reg (.f32 b)
  | replyMultipleInt8 start count vals =>
    refine isSubframe_replyMultiple (mk := TV.i8) (fun _ => rfl) (of_decide_eq_true hwf)
      (congrArg _ (map_setWidth_i8 vals)) ?_ rfl rfl
    rw [flatMap_bytes_i8]
    rfl
  | replyMultipleInt16 start count vals =>
    refine isSubframe_replyMultiple (mk := TV.i16) (fun _ => rfl) (of_decide_eq_true hwf)
      (congrArg _ (map_setWidth_i16 vals)) ?_ rfl rfl
    rw [List.flatMap_map]
    rfl
  | replyMultipleInt32 start count vals =>
    refine isSubframe_replyMultiple (mk := TV.i32) (fun _ => rfl) (of_decide_eq_true hwf)
      (congrArg _ (map_pattern_i32 vals)) ?_ rfl rfl
    rw [List.flatMap_map]
    rfl
  | replyMultipleFloat start count vals =>
    refine isSubframe_replyMultiple (mk := TV.f32) (fun _ => rfl) (of_decide_eq_true hwf)
      (congrArg _ (map_pattern_f32 vals)) ?_ rfl rfl
    rw [List.flatMap_map]
    rfl
  | writeError reg code =>
    exact isSubframe_of_gives rfl rfl fun rest => (decodeFields_error rest reg code).1
  | readError reg code =>
    exact isSubframe_of_gives rfl rfl fun rest => (decodeFields_error rest reg code).2
  | streamC2s channel data =>
    exact isSubframe_of_gives rfl rfl fun rest =>
      decodeFields_streamC2s rest channel (of_decide_eq_true hwf)
  | streamS2c channel data =>
    exact isSubframe_of_gives rfl rfl fun rest =>
      decodeFields_streamS2c rest channel (of_decide_eq_true hwf)
  | _ => cases hport

theorem decodeSub_gives {i : Instr} (hport : i.port = .subframe) (hwf : i.wf = true) {rest : Bytes}
    (hrest : replyShort i = false ∨ rest = []) : Gives decodeSub (encode i) rest i := by
  obtain ⟨k, fields, he, -, hfields⟩ := exists_isSubframe hport hwf
  rw [he]
  refine (rdDisc_code k _).bind (cs := fields) ?_
  rw [toNat_code_setWidth, ofCode_code]
  exact hfields rest hrest

/-- Settles O2: the code selects the family, whose fields are read back. -/
theorem subframeDecodeEncode : Obligations.SubframeDecodeEncode := by
  unfold Obligations.SubframeDecodeEncode
  intro i hport hwf
  refine ⟨?_, fun hshort rest => ?_⟩
  · obtain ⟨vu, hread⟩ := decodeSub_gives hport hwf (.inr rfl) (Reader.start (encode i))
      ((List.append_nil (encode i)).symm ▸ sees_start (encode i))
    exact congrArg Prod.fst hread
  · obtain ⟨vu, hread⟩ := decodeSub_gives hport hwf (.inl hshort) (Reader.start (encode i ++ rest))
      (sees_start (encode i ++ rest))
    exact ⟨congrArg Prod.fst hread, (congrArg (·.2.cur) hread).trans (Nat.zero_add _)⟩

theorem port_of_isRegisterReply {i : Instr} (h : isRegisterReply i = true) : i.port = .subframe := by
  cases i with
  | replySingleInt8 | replySingleInt16 | replySingleInt32 | replySingleFloat | replyMultipleInt8
  | replyMultipleInt16 | replyMultipleInt32 | replyMultipleFloat | writeError | readError => rfl
  | _ => cases h

theorem decodeReply_gives {i : Instr} (hreply : isRegisterReply i = true) (hwf : i.wf = true)
    {rest : Bytes} (hrest : replyShort i = false ∨ rest = []) : Gives decodeReply (encode i) rest i := by
  obtain ⟨k, fields, he, hk, hfields⟩ := exists_isSubframe (port_of_isRegisterReply hreply) hwf
  rw [he]
  refine (rdDisc_code k _).bind (cs := fields) ?_
  rw [toNat_code_setWidth, ofCode_code]
  simp only [hk, hreply, if_true]
  exact hfields rest hrest

end Sys2Proof.Machine
end

section
/-! The register reply decoder (45_register_reply_decoder.md section 1): what a REPLY_MULTIPLE enters, the
loop over whole sub-frames, and the ways a tail ends it. -/

namespace Sys2Proof.Machine

open Sys2Proof

/-! ### REPLY_MULTIPLE by itself -/

/-- The values go under `start`, `start + 1`, ... (45_register_reply_decoder.md R279). -/
theorem multipleEntered_insertAll (start : Nat) (vals : List TV) (m : ReplyMap) :
    MultipleEntered start vals m (ReplyMap.insertAll (multipleEntries start vals) m) := by
  intro k
  induction vals generalizing start m with
  | nil => exact (if_neg (by simp)).symm
  | cons v vs ih =>
    have hstep : ReplyMap.insertAll (multipleEntries start (v :: vs)) m =
        ReplyMap.insertAll (multipleEntries (start + 1) vs) (ReplyMap.insert start (.val v) m) := rfl
    rw [hstep, ih, ReplyMap.lookup_insert, List.length_cons]
    obtain hlow | rfl | hhigh := lt_trichotomy k start
    · rw [if_neg (by omega), if_neg (by omega), if_neg (by omega)]
    · rw [if_neg (by omega), if_pos rfl, if_pos (by omega), Nat.sub_self]
      rfl
    · obtain ⟨j, rfl⟩ : ∃ j, k = start + 1 + j := ⟨k - (start + 1), by omega⟩
      rw [if_neg (by omega : ¬ start + 1 + j = start), show start + 1 + j - (start + 1) = j by omega,
        show start + 1 + j - start = j + 1 by omega, List.getElem?_cons_succ]
      congr 1
      exact propext ⟨fun h => by omega, fun h => by omega⟩

section TakeReply

variable {s : State} (h : s.CanIssue) {i : Instr}
include h

/-- A REPLY_MULTIPLE cut short also stops the parse (45_register_reply_decoder.md R278; log 6). -/
theorem onCommand_takeReply_short (hshort : replyShort i = true) :
    onCommand s (fun r _ => s.takeReply i r) =
      .next ({ s with
        reply := ReplyMap.insertAll (replyEntries i) s.reply, lastStop := .truncated
        events := s.events ++ [Event.parseStop .truncated] }.answered
        (.parsed (ReplyMap.insertAll (replyEntries i) s.reply) .truncated)) := by
  obtain ⟨_, -, he⟩ := onCommand_of_canIssue h fun r _ => s.takeReply i r
  rw [he, State.takeReply, hshort]
  rfl

/-- What any of the four REPLY_MULTIPLE does (45_register_reply_decoder.md R274 to R279). -/
theorem multiple_takeReply {start count : VuValue} {vals : List TV}
    (hentries : replyEntries i = multipleEntries start.toNat vals)
    (hshort : replyShort i = decide (vals.length < count.toNat)) (hle : vals.length ≤ count.toNat) :
    ∃ t, onCommand s (fun r _ => s.takeReply i r) = .next t ∧
      MultipleEntered start.toNat vals s.reply t.reply ∧ SameBytes s t ∧
      (vals.length = count.toNat → t = { s with reply := t.reply }) ∧
      (vals.length < count.toNat →
        t = { s with
              reply := t.reply, lastStop := .truncated
              events := s.events ++ [Event.parseStop .truncated] }.answered
              (.parsed t.reply .truncated)) := by
  have hentered := multipleEntered_insertAll start.toNat vals s.reply
  rw [← hentries] at hentered
  obtain hlt | heq := hle.lt_or_eq
  · refine ⟨_, onCommand_takeReply_short h (hshort.trans (decide_eq_true hlt)), hentered, ?_,
      fun heq => absurd heq hlt.ne, fun _ => rfl⟩
    intro x a n
    cases x <;> rfl
  · exact ⟨_, onCommand_takeReply h (hshort.trans (decide_eq_false heq.not_lt)), hentered,
      sameBytes_reply s _, fun _ => rfl, fun hlt => absurd heq hlt.ne⟩

end TakeReply

/-- Settles O38: the four sub-frames differ in their values' type only. -/
theorem replyMultipleIsInserted : Obligations.ReplyMultipleIsInserted := by
  unfold Obligations.ReplyMultipleIsInserted
  intro start count v8 v16 v32 s h i vals hi hle
  have one {i : Instr} {vals : List TV} (hexec : exec i s = onCommand s fun r _ => s.takeReply i r)
      (hentries : replyEntries i = multipleEntries start.toNat vals)
      (hshort : replyShort i = decide (vals.length < count.toNat)) (hle : vals.length ≤ count.toNat) :=
    hexec ▸ multiple_takeReply h hentries hshort hle
  simp only [List.mem_cons, Prod.mk.injEq, List.not_mem_nil, or_false] at hi
  obtain ⟨rfl, rfl⟩ | ⟨rfl, rfl⟩ | ⟨rfl, rfl⟩ | ⟨rfl, rfl⟩ := hi <;>
    exact one rfl rfl (by rw [List.length_map]; rfl) hle

/-! ### The loop over whole sub-frames -/

/-- Whole reply sub-frames, as the parse claims take them. -/
def WholeReplies (is : List Instr) : Prop :=
  ∀ i ∈ is, isRegisterReply i = true ∧ i.wf = true ∧ replyShort i = false

/-- The map of the entries of `is`, from the empty one (45_register_reply_decoder.md R265). -/
def replyFold (is : List Instr) (m : ReplyMap) : ReplyMap :=
  is.foldl (fun m i => ReplyMap.insertAll (replyEntries i) m) m

theorem parseLoop_whole {is : List Instr} (his : WholeReplies is) {tail : Bytes} {n : Nat}
    {rd : Reader} (h : Sees rd (is.flatMap encode ++ tail)) (m : ReplyMap) :
    ∃ vu, parseLoop (is.length + n) rd m =
      parseLoop n ⟨rd.pay, rd.cur + (is.flatMap encode).length, vu⟩ (replyFold is m) := by
  induction is generalizing rd m with
  | nil => exact ⟨rd.vu, by rw [List.length_nil, Nat.zero_add]; rfl⟩
  | cons i is ih =>
    obtain ⟨hreply, hwf, hshort⟩ := his i List.mem_cons_self
    rw [List.flatMap_cons, List.append_assoc] at h
    obtain ⟨vu, hread⟩ := decodeReply_gives hreply hwf (.inl hshort) rd h
    obtain ⟨vu', hrest⟩ := ih (fun j hj => his j (List.mem_cons_of_mem _ hj)) (h.advance vu)
      (ReplyMap.insertAll (replyEntries i) m)
    refine ⟨vu', ?_⟩
    have hstep : parseLoop (is.length + n + 1) rd m =
        parseLoop (is.length + n) ⟨rd.pay, rd.cur + (encode i).length, vu⟩
          (ReplyMap.insertAll (replyEntries i) m) := by
      rw [parseLoop, hread]
      simp only [hshort, Bool.false_eq_true, if_false]
    rw [List.length_cons, Nat.add_right_comm, hstep, hrest, List.flatMap_cons, List.length_append,
      Nat.add_assoc]
    rfl

/-- Every reply sub-frame has at least its code byte (45_register_reply_decoder.md R266). -/
theorem length_le_flatMap_encode {is : List Instr} (his : WholeReplies is) :
    is.length ≤ (is.flatMap encode).length := by
  induction is with
  | nil => exact Nat.le_refl 0
  | cons i is ih =>
    obtain ⟨hreply, hwf, -⟩ := his i List.mem_cons_self
    obtain ⟨k, fields, he, -⟩ := exists_isSubframe (port_of_isRegisterReply hreply) hwf
    have hrest := ih fun j hj => his j (List.mem_cons_of_mem _ hj)
    rw [List.flatMap_cons, List.length_append, he, List.length_cons, List.length_cons]
    omega

/-- The reader that a tail behind `whole` is read from, `cur` bytes of it taken. -/
def readerAt (whole tail : Bytes) (cur : Nat) (vu : VuRegs) : Reader :=
  ⟨whole ++ tail, whole.length + cur, vu⟩

theorem vuDec_readerAt (whole tail : Bytes) (cur : Nat) (vu : VuRegs) :
    vuDec (readerAt whole tail cur vu).pay (readerAt whole tail cur vu).cur = vuDec tail cur := by
  rw [vuDec_drop, vuDec_drop tail cur, readerAt, ← List.drop_drop, List.drop_left]

theorem sees_readerAt {whole tail : Bytes} {cur : Nat} (h : cur ≤ tail.length) (vu : VuRegs) :
    Sees (readerAt whole tail cur vu) (tail.drop cur) where
  drop := by rw [readerAt, ← List.drop_drop, List.drop_left]
  cur := by
    have hle := Nat.add_le_add_left h whole.length
    rwa [← List.length_append] at hle

section Tail

variable {is : List Instr} (his : WholeReplies is) {tail : Bytes}
include his

/-- Behind the whole sub-frames the loop reads the tail (45_register_reply_decoder.md R265). -/
theorem parsePayload_whole :
    ∃ n vu, parsePayload (is.flatMap encode ++ tail) =
      parseLoop (n + 1) (readerAt (is.flatMap encode) tail 0 vu) (replyFold is []) := by
  have hle := length_le_flatMap_encode his
  obtain ⟨n, hn⟩ : ∃ n, (is.flatMap encode ++ tail).length + 1 = is.length + (n + 1) := by
    rw [List.length_append]
    exact ⟨(is.flatMap encode).length + tail.length - is.length, by omega⟩
  obtain ⟨vu, hloop⟩ := parseLoop_whole his (n := n + 1) (sees_start (is.flatMap encode ++ tail)) []
  refine ⟨n, vu, ?_⟩
  rw [parsePayload, hn, hloop, readerAt]
  congr 2
  exact Nat.zero_add _

/-- A tail that is no sub-frame ends the parse, the map as it is. -/
theorem parsePayload_of_error {e : Reject} {rd : Reader}
    (h : ∀ vu, decodeReply (readerAt (is.flatMap encode) tail 0 vu) = (.error e, rd)) :
    parsePayload (is.flatMap encode ++ tail) = (parseEndOf e, rd, replyFold is []) := by
  obtain ⟨n, vu, hloop⟩ := parsePayload_whole his (tail := tail)
  rw [hloop, parseLoop, h vu]

/-- A REPLY_MULTIPLE cut short ends the parse, its values entered (45_register_reply_decoder.md R278). -/
theorem parsePayload_of_short {i : Instr} {rd : Reader} (hshort : replyShort i = true)
    (h : ∀ vu, decodeReply (readerAt (is.flatMap encode) tail 0 vu) = (.ok i, rd)) :
    parsePayload (is.flatMap encode ++ tail) =
      (.stop .truncated, rd, ReplyMap.insertAll (replyEntries i) (replyFold is [])) := by
  obtain ⟨n, vu, hloop⟩ := parsePayload_whole his (tail := tail)
  rw [hloop, parseLoop, h vu]
  simp only [hshort, if_true]

end Tail

end Sys2Proof.Machine
end

section
/-! How a tail ends the parse (45_register_reply_decoder.md R265, R267, R278, R282, R284): at its
discriminator, inside a recognized sub-frame, or in the values of a REPLY_MULTIPLE. -/

namespace Sys2Proof.Machine

open Sys2Proof

/-! ### The reply codes -/

theorem code_of_ofCode {m : Nat} {k : SubKind} (h : SubKind.ofCode m = some k) : k.code.toNat = m := by
  unfold SubKind.ofCode at h
  split at h <;> cases h <;> rfl

/-- The reply sub-frames are those with a code from 0x20 to 0x29 (45_register_reply_decoder.md R282). -/
theorem isReply_iff (k : SubKind) : k.isReply = true ↔ 0x20 ≤ k.code.toNat ∧ k.code.toNat ≤ 0x29 := by
  cases k with
  | writeSingle t | writeMultiple t | readSingle t | readMultiple t | replySingle t | replyMultiple t =>
    cases t <;> decide
  | writeError | readError | streamC2s | streamS2c => decide

theorem exists_replyKind {m : Nat} (hlow : 0x20 ≤ m) (hhigh : m ≤ 0x29) :
    ∃ k, SubKind.ofCode m = some k ∧ k.isReply = true := by
  interval_cases m <;> exact ⟨_, rfl, rfl⟩

theorem code_replySingle (t : TypeTag) : (SubKind.replySingle t).code.toNat = 0x20 + t.num.toNat := by
  cases t <;> rfl

theorem code_replyMultiple (t : TypeTag) : (SubKind.replyMultiple t).code.toNat = 0x24 + t.num.toNat := by
  cases t <;> rfl

/-- Every reply sub-frame's first field is its index (30_encoding.md R99). -/
theorem decodeFields_index {k : SubKind} (h : k.isReply = true) :
    ∃ f, ∀ rd, decodeFields k rd = (rdVu rd).bind f := by
  cases k with
  | replySingle t | replyMultiple t | writeError | readError => exact ⟨_, fun _ => rfl⟩
  | writeSingle | writeMultiple | readSingle | readMultiple | streamC2s | streamS2c => cases h

/-- From code 0x24 on the second field is a count or a code (30_encoding.md R99). -/
theorem decodeFields_second {k : SubKind} (h : k.isReply = true) (hcode : 0x24 ≤ k.code.toNat) :
    ∃ f : VuValue → VuValue → Reader → Read Instr,
      ∀ rd, decodeFields k rd = (rdVu rd).bind fun reg rd => (rdVu rd).bind (f reg) := by
  cases k with
  | replySingle t =>
    rw [code_replySingle] at hcode
    exact absurd hcode (by have := t.num.isLt; omega)
  | replyMultiple t | writeError | readError => exact ⟨_, fun _ => rfl⟩
  | writeSingle | writeMultiple | readSingle | readMultiple | streamC2s | streamS2c => cases h

/-! ### Fields of a tail -/

section Fields

variable {whole tail : Bytes} {cur : Nat} {vu : VuRegs}

theorem rdVu_readerAt_of_value {v : VuValue} {n : Nat} (h : (vuDec tail cur).1 = .value v n) :
    rdVu (readerAt whole tail cur vu) = (.ok v, readerAt whole tail (cur + n) (vuDec tail cur).2) := by
  rw [← vuDec_readerAt whole tail cur vu] at h ⊢
  rw [rdVu_of_value h]
  simp only [readerAt, Nat.add_assoc]

theorem rdVu_readerAt_of_ends (h : VuEnds tail cur) :
    rdVu (readerAt whole tail cur vu) =
      (.error .truncated, readerAt whole tail cur (vuDec tail cur).2) := by
  rw [VuEnds] at h
  rw [← vuDec_readerAt whole tail cur vu] at h ⊢
  exact rdVu_of_ends h

theorem rdVu_readerAt_of_overlong (h : (vuDec tail cur).1 = .overlong) :
    rdVu (readerAt whole tail cur vu) =
      (.error .overlong, readerAt whole tail cur (vuDec tail cur).2) := by
  rw [← vuDec_readerAt whole tail cur vu] at h ⊢
  exact rdVu_of_overlong h

theorem rdDisc_readerAt_of_value {v : VuValue} {n : Nat} (h : (vuDec tail cur).1 = .value v n) :
    rdDisc (readerAt whole tail cur vu) =
      (.ok v, readerAt whole tail (cur + n) (vuDec tail cur).2) := by
  rw [← vuDec_readerAt whole tail cur vu] at h ⊢
  rw [rdDisc_of_value h]
  simp only [readerAt, Nat.add_assoc]

end Fields

/-- What a discriminator that cannot be read answers (45_register_reply_decoder.md R265). -/
def discReject : VuResult → Reject
  | .noData => .exhausted
  | .overlong => .overlong
  | _ => .truncated

theorem rdDisc_of_no_value {rd : Reader} (h : ∀ v n, (vuDec rd.pay rd.cur).1 ≠ .value v n) :
    rdDisc rd = (.error (discReject (vuDec rd.pay rd.cur).1),
      ⟨rd.pay, rd.cur, (vuDec rd.pay rd.cur).2⟩) := by
  rcases hd : vuDec rd.pay rd.cur with ⟨res, vu⟩
  rw [hd] at h
  cases res with
  | value v n => exact absurd rfl (h v n)
  | noData | truncated | overlong => simp only [rdDisc, hd, discReject]

section Sub

variable {whole tail : Bytes} {vu : VuRegs} {id : VuValue} {n : Nat}

theorem decodeReply_of_no_value (h : ∀ v n, (vuDec tail 0).1 ≠ .value v n) :
    decodeReply (readerAt whole tail 0 vu) =
      (.error (discReject (vuDec tail 0).1), readerAt whole tail 0 (vuDec tail 0).2) := by
  rw [← vuDec_readerAt whole tail 0 vu] at h ⊢
  rw [decodeReply, rdDisc_of_no_value h]
  rfl

section Disc

variable (hdisc : (vuDec tail 0).1 = .value id n)
include hdisc

theorem decodeReply_of_unknown (hid : ¬ (0x20 ≤ id.toNat ∧ id.toNat ≤ 0x29)) :
    decodeReply (readerAt whole tail 0 vu) =
      (.error .unknownCode, readerAt whole tail n (vuDec tail 0).2) := by
  rw [decodeReply, rdDisc_readerAt_of_value hdisc, Nat.zero_add]
  cases hk : SubKind.ofCode id.toNat with
  | none => simp only [Read.bind, hk]
  | some k =>
    have hreply : ¬ k.isReply = true := by rwa [isReply_iff, code_of_ofCode hk]
    simp only [Read.bind, hk, hreply, Bool.false_eq_true, if_false]

theorem decodeReply_of_code {k : SubKind} (hk : k.code.toNat = id.toNat) (hreply : k.isReply = true) :
    decodeReply (readerAt whole tail 0 vu) =
      decodeFields k (readerAt whole tail n (vuDec tail 0).2) := by
  have hcode : SubKind.ofCode id.toNat = some k := hk ▸ ofCode_code k
  rw [decodeReply, rdDisc_readerAt_of_value hdisc, Nat.zero_add]
  simp only [Read.bind, hcode, hreply, if_true]

section Known

variable (hlow : 0x20 ≤ id.toNat) (hhigh : id.toNat ≤ 0x29)
include hlow hhigh

theorem decodeReply_index :
    ∃ f, ∀ vu, decodeReply (readerAt whole tail 0 vu) =
      (rdVu (readerAt whole tail n (vuDec tail 0).2)).bind f := by
  obtain ⟨k, hk, hreply⟩ := exists_replyKind hlow hhigh
  obtain ⟨f, hf⟩ := decodeFields_index hreply
  exact ⟨f, fun vu => (decodeReply_of_code hdisc (code_of_ofCode hk) hreply).trans (hf _)⟩

theorem decodeReply_of_index_ends (h : VuEnds tail n) :
    decodeReply (readerAt whole tail 0 vu) =
      (.error .truncated, readerAt whole tail n (vuDec tail n).2) := by
  obtain ⟨f, hf⟩ := decodeReply_index (whole := whole) hdisc hlow hhigh
  rw [hf, rdVu_readerAt_of_ends h]
  rfl

theorem decodeReply_of_index_overlong (h : (vuDec tail n).1 = .overlong) :
    decodeReply (readerAt whole tail 0 vu) =
      (.error .overlong, readerAt whole tail n (vuDec tail n).2) := by
  obtain ⟨f, hf⟩ := decodeReply_index (whole := whole) hdisc hlow hhigh
  rw [hf, rdVu_readerAt_of_overlong h]
  rfl

end Known

section Index

variable {index : VuValue} {k : Nat} (hindex : (vuDec tail n).1 = .value index k)
include hindex

theorem decodeReply_of_value_short {ty : TypeTag} (hty : id.toNat = 0x20 + ty.num.toNat)
    (h : tail.length < n + k + ty.width) :
    decodeReply (readerAt whole tail 0 vu) =
      (.error .truncated, readerAt whole tail (n + k) (vuDec tail n).2) := by
  have hle : n + k ≤ tail.length := ((vuDec_bounds tail n).2.2 index k hindex).2.2
  have hshort : (tail.drop (n + k)).length < ty.width := by
    rw [List.length_drop]
    omega
  rw [decodeReply_of_code hdisc ((code_replySingle ty).trans hty.symm) rfl, decodeFields,
    rdVu_readerAt_of_value hindex]
  exact congrArg (Read.bind · fun v rd => (.ok (Instr.replySingle index v), rd))
    (rdVal_of_short (sees_readerAt hle _) hshort)

theorem decodeReply_second (hlow : 0x24 ≤ id.toNat) (hhigh : id.toNat ≤ 0x29) :
    ∃ f, ∀ vu, decodeReply (readerAt whole tail 0 vu) =
      (rdVu (readerAt whole tail (n + k) (vuDec tail n).2)).bind f := by
  obtain ⟨kind, hkind, hreply⟩ := exists_replyKind (by omega : 0x20 ≤ id.toNat) hhigh
  have hcode := code_of_ofCode hkind
  obtain ⟨f, hf⟩ := decodeFields_second hreply (by omega)
  refine ⟨f index, fun vu => (decodeReply_of_code hdisc hcode hreply).trans ?_⟩
  rw [hf, rdVu_readerAt_of_value hindex]
  rfl

theorem decodeReply_of_second_ends (hlow : 0x24 ≤ id.toNat) (hhigh : id.toNat ≤ 0x29)
    (h : VuEnds tail (n + k)) :
    decodeReply (readerAt whole tail 0 vu) =
      (.error .truncated, readerAt whole tail (n + k) (vuDec tail (n + k)).2) := by
  obtain ⟨f, hf⟩ := decodeReply_second (whole := whole) hdisc hindex hlow hhigh
  rw [hf, rdVu_readerAt_of_ends h]
  rfl

theorem decodeReply_of_second_overlong (hlow : 0x24 ≤ id.toNat) (hhigh : id.toNat ≤ 0x29)
    (h : (vuDec tail (n + k)).1 = .overlong) :
    decodeReply (readerAt whole tail 0 vu) =
      (.error .overlong, readerAt whole tail (n + k) (vuDec tail (n + k)).2) := by
  obtain ⟨f, hf⟩ := decodeReply_second (whole := whole) hdisc hindex hlow hhigh
  rw [hf, rdVu_readerAt_of_overlong h]
  rfl

end Index

end Disc

end Sub

/-! ### A REPLY_MULTIPLE cut short in its values -/

/-- The whole values at the front of `data` (45_register_reply_decoder.md R278). -/
def wholeChunks (w : Nat) (data : Bytes) : List Bytes :=
  (List.range (data.length / w)).map fun i => (data.drop (i * w)).take w

theorem length_wholeChunks (w : Nat) (data : Bytes) : (wholeChunks w data).length = data.length / w := by
  rw [wholeChunks, List.length_map, List.length_range]

theorem length_of_mem_wholeChunks {w : Nat} {data : Bytes} :
    ∀ c ∈ wholeChunks w data, List.length c = w := by
  intro c hc
  obtain ⟨i, hi, rfl⟩ := List.mem_map.mp hc
  have hle : (i + 1) * w ≤ data.length :=
    (Nat.mul_le_mul_right w (List.mem_range.mp hi)).trans (Nat.div_mul_le_self _ _)
  rw [Nat.succ_mul] at hle
  rw [List.length_take, List.length_drop]
  omega

theorem flatten_chunks_append (w q : Nat) (data : Bytes) :
    ((List.range q).map fun i => (data.drop (i * w)).take w).flatten ++ data.drop (q * w) = data := by
  induction q with
  | zero => simp
  | succ q ih =>
    rw [List.range_succ, List.map_append, List.flatten_append, List.append_assoc, Nat.succ_mul,
      ← List.drop_drop]
    conv_rhs => rw [← ih]
    simp

/-- A reply's entries are its values, whatever their type (45_register_reply_decoder.md R279). -/
theorem replyEntries_replyMultiple {t : TypeTag} {vals : List TV} (ht : ∀ v ∈ vals, TV.tag v = t)
    (start count : VuValue) :
    replyEntries (.replyMultiple t start count vals) = multipleEntries start.toNat vals := by
  have hback {α : Type} (f : TV → α) (mk : α → TV) (h : ∀ v, TV.tag v = t → mk (f v) = v) :
      (vals.map f).map mk = vals := by
    rw [List.map_map]
    exact (List.map_congr_left fun v hv => h v (ht v hv)).trans (List.map_id vals)
  cases t with
  | int8 =>
    exact congrArg _ (hback _ TV.i8 fun v hv => by cases v <;> simp_all [TV.tag, TV.pattern])
  | int16 =>
    exact congrArg _ (hback _ TV.i16 fun v hv => by cases v <;> simp_all [TV.tag, TV.pattern])
  | int32 =>
    exact congrArg _ (hback _ TV.i32 fun v hv => by cases v <;> simp_all [TV.tag, TV.pattern])
  | float =>
    exact congrArg _ (hback _ TV.f32 fun v hv => by cases v <;> simp_all [TV.tag, TV.pattern])

theorem replyShort_replyMultiple (t : TypeTag) (start count : VuValue) (vals : List TV) :
    replyShort (.replyMultiple t start count vals) = decide (vals.length < count.toNat) := by
  cases t <;> simp only [Instr.replyMultiple, replyShort, List.length_map]

theorem tag_ofBytes (t : TypeTag) (bs : Bytes) : (TV.ofBytes t bs).tag = t := by
  cases t <;> rfl

theorem decodeReply_of_values_short {whole tail : Bytes} {vu : VuRegs} {id index count : VuValue}
    {n k j : Nat} {ty : TypeTag} {vals : List TV} {rd : Reader} (hdisc : (vuDec tail 0).1 = .value id n)
    (hindex : (vuDec tail n).1 = .value index k) (hcount : (vuDec tail (n + k)).1 = .value count j)
    (hty : id.toNat = 0x24 + ty.num.toNat)
    (hvals : rdVals ty (whole ++ tail).length count.toNat
      (readerAt whole tail (n + k + j) (vuDec tail (n + k)).2) = (vals, rd)) :
    decodeReply (readerAt whole tail 0 vu) = (.ok (.replyMultiple ty index count vals), rd) := by
  rw [decodeReply_of_code hdisc ((code_replyMultiple ty).trans hty.symm) rfl, decodeFields,
    rdVu_readerAt_of_value hindex]
  change (rdVu (readerAt whole tail (n + k) (vuDec tail n).2)).bind _ = _
  rw [rdVu_readerAt_of_value hcount]
  exact congrArg (fun r : List TV × Reader =>
    ((Except.ok (Instr.replyMultiple ty index count r.1), r.2) : Read Instr)) hvals

theorem rdVals_of_cut {whole tail : Bytes} {cur count : Nat} {vu : VuRegs} {ty : TypeTag}
    (hcur : cur ≤ tail.length) (hcut : tail.length < cur + count * ty.width) :
    rdVals ty (whole ++ tail).length count (readerAt whole tail cur vu) =
      ((wholeChunks ty.width (tail.drop cur)).map (TV.ofBytes ty),
        readerAt whole tail (cur + (tail.drop cur).length / ty.width * ty.width) vu) := by
  have hw := width_pos ty
  have hlen : (tail.drop cur).length = tail.length - cur := List.length_drop
  have hsees : Sees (readerAt whole tail cur vu) ((wholeChunks ty.width (tail.drop cur)).flatten ++
      (tail.drop cur).drop ((tail.drop cur).length / ty.width * ty.width)) :=
    (flatten_chunks_append ty.width _ (tail.drop cur)).symm ▸ sees_readerAt hcur vu
  have hfuel : (wholeChunks ty.width (tail.drop cur)).length ≤ (whole ++ tail).length := by
    have := Nat.div_le_self (tail.drop cur).length ty.width
    rw [length_wholeChunks, List.length_append]
    omega
  have hfew : (wholeChunks ty.width (tail.drop cur)).length < count := by
    rw [length_wholeChunks, Nat.div_lt_iff_lt_mul hw]
    omega
  have hrest : ((tail.drop cur).drop ((tail.drop cur).length / ty.width * ty.width)).length <
      ty.width := by
    have hmod := Nat.mod_lt (tail.drop cur).length hw
    have hdiv := Nat.div_add_mod' (tail.drop cur).length ty.width
    rw [List.length_drop]
    omega
  rw [rdVals_eq length_of_mem_wholeChunks hsees hfuel (.inr ⟨hfew, hrest⟩),
    length_flatten_chunks length_of_mem_wholeChunks, length_wholeChunks]
  simp only [readerAt, Nat.add_assoc]

end Sys2Proof.Machine
end

section
/-! PARSE_REGISTER_REPLY as a command (45_register_reply_decoder.md R265 to R284). -/

namespace Sys2Proof.Machine

open Sys2Proof

/-- What the parse of a payload leaves in the parse registers and REPLY. -/
def State.parsed (payload : Bytes) (rd : Reader) (m : ReplyMap) (s : State) : State :=
  { s with pay := payload, cur := rd.cur, vu := rd.vu, reply := m }

section Parse

variable {s : State} {payload : Bytes} {rd : Reader} {m : ReplyMap}

theorem State.runParse_of_stop {why : StopReason} (hp : parsePayload payload = (.stop why, rd, m)) :
    s.runParse payload = (.stop why, (s.parsed payload rd m).stop why) := by
  rw [State.runParse, hp]
  rfl

theorem State.runParse_of_overlong (hp : parsePayload payload = (.overlong, rd, m)) :
    s.runParse payload = (.overlong, s.parsed payload rd m) := by
  rw [State.runParse, hp]
  rfl

theorem exec_parse_of_stop (h : s.CanIssue) {why : StopReason}
    (hp : parsePayload payload = (.stop why, rd, m)) :
    exec (.parseRegisterReply payload) s =
      .next (((s.parsed payload rd m).stop why).answered (.parsed m why)) := by
  obtain ⟨_, -, he⟩ := onCommand_of_canIssue h fun r _ => s.parseFor payload r
  refine he.trans (congrArg _ ?_)
  rw [State.parseFor, State.runParse_of_stop hp]
  rfl

theorem exec_parse_of_overlong (h : s.CanIssue) (hp : parsePayload payload = (.overlong, rd, m)) :
    exec (.parseRegisterReply payload) s =
      .next ((s.parsed payload rd m).faulted .varuintOverlong 1) := by
  obtain ⟨_, -, he⟩ := onCommand_of_canIssue h fun r _ => s.parseFor payload r
  refine he.trans (congrArg _ ?_)
  rw [State.parseFor, State.runParse_of_overlong hp]
  exact State.raise_eq_faulted .varuintOverlong h.2.1

/-- Of the byte spaces the parse touches PAY only. -/
theorem exec_parse_sameBytesBut (h : s.CanIssue) {t : State}
    (ht : exec (.parseRegisterReply payload) s = .next t) : SameBytesBut .pay s t := by
  rcases hp : parsePayload payload with ⟨why | _, rd, m⟩
  · obtain rfl := Host.Outcome.next.inj (ht.symm.trans (exec_parse_of_stop h hp))
    intro x hx a n
    cases x with
    | pay => exact absurd rfl hx
    | _ => rfl
  · obtain rfl := Host.Outcome.next.inj (ht.symm.trans (exec_parse_of_overlong h hp))
    intro x hx a n
    cases x with
    | pay => exact absurd rfl hx
    | _ => rfl

end Parse

/-! ### The end of the parse by its tail -/

section Ends

variable {is : List Instr} (his : WholeReplies is) {tail : Bytes}
include his

theorem parsePayload_of_no_value (h : ∀ v n, (vuDec tail 0).1 ≠ .value v n) :
    parsePayload (is.flatMap encode ++ tail) =
      (parseEndOf (discReject (vuDec tail 0).1),
        readerAt (is.flatMap encode) tail 0 (vuDec tail 0).2, replyFold is []) :=
  parsePayload_of_error his fun _ => decodeReply_of_no_value h

theorem parsePayload_of_exhausted (h : tail = []) :
    parsePayload (is.flatMap encode ++ tail) =
      (.stop .exhausted, readerAt (is.flatMap encode) tail 0 (vuDec tail 0).2, replyFold is []) := by
  subst h
  exact parsePayload_of_no_value his (tail := []) fun _ _ => nofun

theorem parsePayload_of_truncated (h : (vuDec tail 0).1 = .truncated) :
    parsePayload (is.flatMap encode ++ tail) =
      (.stop .truncated, readerAt (is.flatMap encode) tail 0 (vuDec tail 0).2, replyFold is []) := by
  have hend := parsePayload_of_no_value his (tail := tail) fun v n => by rw [h]; nofun
  rwa [h] at hend

theorem parsePayload_of_overlong (h : (vuDec tail 0).1 = .overlong) :
    parsePayload (is.flatMap encode ++ tail) =
      (.overlong, readerAt (is.flatMap encode) tail 0 (vuDec tail 0).2, replyFold is []) := by
  have hend := parsePayload_of_no_value his (tail := tail) fun v n => by rw [h]; nofun
  rwa [h] at hend

theorem parsePayload_of_unknown {id : VuValue} {n : Nat} (h : (vuDec tail 0).1 = .value id n)
    (hid : ¬ (0x20 ≤ id.toNat ∧ id.toNat ≤ 0x29)) :
    parsePayload (is.flatMap encode ++ tail) =
      (.stop .unknownId, readerAt (is.flatMap encode) tail n (vuDec tail 0).2, replyFold is []) :=
  parsePayload_of_error his fun _ => decodeReply_of_unknown h hid

/-- The whole values of a REPLY_MULTIPLE cut short are entered (45_register_reply_decoder.md R278). -/
theorem parsePayload_of_cut {id index count : VuValue} {n k j : Nat} {ty : TypeTag}
    (hdisc : (vuDec tail 0).1 = .value id n) (hindex : (vuDec tail n).1 = .value index k)
    (hcount : (vuDec tail (n + k)).1 = .value count j) (hty : id.toNat = 0x24 + ty.num.toNat)
    (hcut : tail.length < n + k + j + count.toNat * ty.width) :
    parsePayload (is.flatMap encode ++ tail) =
      (.stop .truncated,
        readerAt (is.flatMap encode) tail
          (n + k + j + (tail.drop (n + k + j)).length / ty.width * ty.width) (vuDec tail (n + k)).2,
        ReplyMap.insertAll (multipleEntries index.toNat
          ((wholeChunks ty.width (tail.drop (n + k + j))).map (TV.ofBytes ty))) (replyFold is [])) := by
  have hle : n + k + j ≤ tail.length := ((vuDec_bounds tail (n + k)).2.2 count j hcount).2.2
  have hfew : (tail.drop (n + k + j)).length / ty.width < count.toNat := by
    rw [Nat.div_lt_iff_lt_mul (width_pos ty), List.length_drop]
    omega
  have hshort : replyShort (.replyMultiple ty index count
      ((wholeChunks ty.width (tail.drop (n + k + j))).map (TV.ofBytes ty))) = true := by
    rw [replyShort_replyMultiple, List.length_map, length_wholeChunks]
    exact decide_eq_true hfew
  rw [← replyEntries_replyMultiple (tag_of_mem_map (tag_ofBytes ty) _) index count]
  exact parsePayload_of_short his hshort fun _ =>
    decodeReply_of_values_short hdisc hindex hcount hty (rdVals_of_cut hle hcut)

end Ends

/-- Settles O39: the loop over the whole sub-frames, then the tail's discriminator. -/
theorem parseIsTheFoldOfItsSubframes : Obligations.ParseIsTheFoldOfItsSubframes := by
  unfold Obligations.ParseIsTheFoldOfItsSubframes
  intro is tail s h his
  refine ⟨fun htail => ?_, fun id n hdisc hid => ?_, fun htail => ?_, fun htail => ?_,
    fun t ht => exec_parse_sameBytesBut h ht⟩
  · refine (exec_parse_of_stop h (parsePayload_of_exhausted his htail)).trans ?_
    simp only [State.stop, State.emit, stopEvents, List.append_nil]
    rfl
  · exact exec_parse_of_stop h (parsePayload_of_unknown his hdisc hid)
  · exact exec_parse_of_stop h (parsePayload_of_truncated his htail)
  · exact exec_parse_of_overlong h (parsePayload_of_overlong his htail)

/-- Settles O40: the field that is cut short or overlong decides how the parse ends. -/
theorem parseStopsInsideASubframe : Obligations.ParseStopsInsideASubframe := by
  unfold Obligations.ParseStopsInsideASubframe
  intro is tail s id n h his hdisc hlow hhigh
  refine ⟨fun hends => ?_, fun hover => ?_, fun start k hindex => ⟨fun ty hty hcut => ?_, fun hcode =>
    ⟨fun hends => ?_, fun hover => ?_, fun count j hcount ty hty hcut => ?_⟩⟩⟩
  · exact exec_parse_of_stop h (parsePayload_of_error his fun _ =>
      decodeReply_of_index_ends hdisc hlow hhigh hends)
  · exact exec_parse_of_overlong h (parsePayload_of_error his fun _ =>
      decodeReply_of_index_overlong hdisc hlow hhigh hover)
  · exact exec_parse_of_stop h (parsePayload_of_error his fun _ =>
      decodeReply_of_value_short hdisc hindex hty hcut)
  · exact exec_parse_of_stop h (parsePayload_of_error his fun _ =>
      decodeReply_of_second_ends hdisc hindex hcode hhigh hends)
  · exact exec_parse_of_overlong h (parsePayload_of_error his fun _ =>
      decodeReply_of_second_overlong hdisc hindex hcode hhigh hover)
  · have hrun := exec_parse_of_stop h (parsePayload_of_cut his hdisc hindex hcount hty hcut)
    rw [wholeChunks, List.map_map] at hrun
    simp only [List.length_map, List.length_range]
    exact hrun

end Sys2Proof.Machine
end

section
/-! Whole exchanges (47_exchange.md R316 to R322): the steps every exchange shares, from its command to the
flush of its drain, and the runs without a reply. -/

namespace Sys2Proof.Machine

open Sys2Proof

/-! ### Runs -/

theorem State.acts_cons {s t : State} {st : Stimulus} (h : s.act st = .next t) (sts : List Stimulus) :
    s.acts (st :: sts) = t.acts sts := by
  simp only [State.acts, h]

theorem State.acts_grant {s t : State} {r : Nat} (h : s.grant r = t) (sts : List Stimulus) :
    s.acts (.grant r :: sts) = t.acts sts := h ▸ rfl

theorem State.acts_exchange {s t : State} {r : Nat} (h : s.exchangeStep r = t) (sts : List Stimulus) :
    s.acts (.exchange r :: sts) = t.acts sts := h ▸ rfl

theorem State.acts_txWrite {s t : State} (h : s.txWrite = t) (sts : List Stimulus) :
    s.acts (.txWrite :: sts) = t.acts sts := h ▸ rfl

theorem State.acts_txFlushed {s t : State} (h : s.txFlushed = t) (sts : List Stimulus) :
    s.acts (.txFlushed :: sts) = t.acts sts := h ▸ rfl

theorem getElem?_modify_self {cs : List Client} {r : Nat} {c : Client} (hc : cs[r]? = some c)
    (f : Client → Client) : (cs.modify r f)[r]? = some (f c) := by
  rw [List.getElem?_modify, hc]
  simp

/-- A requester that was not waiting leaves WAITERS as it found them. -/
theorem waitersErase_waitersInsert {r : Nat} {ws : List Nat} (h : r ∉ ws) :
    waitersErase r (waitersInsert r ws) = ws := by
  have hne : ∀ q ∈ ws, decide (q ≠ r) = true := fun q hq => decide_eq_true fun heq => h (heq ▸ hq)
  induction ws with
  | nil => simp [waitersInsert, waitersErase]
  | cons w ws ih =>
    have hw : w ≠ r := fun heq => h (heq ▸ List.mem_cons_self)
    have hrest := ih (fun hr => h (List.mem_cons_of_mem _ hr)) fun q hq => hne q (List.mem_cons_of_mem _ hq)
    have hself : waitersErase r (w :: ws) = w :: ws := List.filter_eq_self.mpr hne
    rw [waitersInsert]
    split
    · rw [waitersErase, List.filter_cons_of_neg (by simp)]
      exact hself
    · rw [if_neg (Ne.symm hw), waitersErase, List.filter_cons_of_pos (by simpa using hw)]
      exact congrArg _ hrest

/-! ### The registers of a requester in its exchange -/

/-- In EX_TOKEN before the write (47_exchange.md R316). -/
def Client.begun (op : ExOp) (c : Client) : Client :=
  { c with exOp := some op, exs := .token, written := false, cancelled := false }

/-- In EX_TOKEN, the frame in TXBUF. -/
def Client.wrote (op : ExOp) (c : Client) : Client := (c.begun op).afterFrame op

section Client

variable (op : ExOp) (c : Client)

theorem Client.wrote_link : (c.wrote op).exs = .token ∧ (c.wrote op).exOp = some op ∧
    (c.wrote op).written = true ∧ (c.wrote op).cancelled = false ∧ (c.wrote op).destId = c.destId := by
  cases op <;> exact ⟨rfl, rfl, rfl, rfl, rfl⟩

theorem exchangePayload_begun : exchangePayload op (c.begun op) = exchangePayload op c := by
  cases op <;> rfl

end Client

/-! ### From the command to the flush -/

/-- The frame of the exchange `op` of a requester with registers `c`. -/
def State.exchangeFrame (op : ExOp) (c : Client) (s : State) : Bytes :=
  sentFrame op.rr s.sourceId c.destId (exchangePayload op c)

/-- Its CRC, which the framer leaves in CRC_ACC. -/
def State.exchangeCrc (op : ExOp) (c : Client) (s : State) : BitVec 16 :=
  frameCrc (srcByte op.rr s.sourceId) (dstByte c.destId) (exchangePayload op c)

/-- The exchange `op` of the issuer waits for `tx_flushed`, its frame on WIRE (47_exchange.md R316). -/
def State.flushing (op : ExOp) (c : Client) (s : State) : State :=
  { s with
    token := .held s.issuer, clients := s.clients.modify s.issuer (Client.wrote op)
    txbuf := [], wire := s.wire ++ s.txbuf ++ s.exchangeFrame op c
    drs := .flush, drOwner := some s.issuer, crcAcc := s.exchangeCrc op c }

section Start

variable {s : State} {c : Client} {op : ExOp} (h : s.CanIssue) (hinv : s.LinkInv)
  (hfree : s.token = .free) (hc : s.clients[s.issuer]? = some c)

theorem State.act_command {bs : Bytes} {i : Instr} (hd : decodeCommand bs = .ok i) :
    s.act (.command s.issuer bs) = exec i s := by
  simp only [State.act, State.runCommand, hd]

include hc in
theorem exec_registerExchange (h : s.CanIssue) (hl : c.reqbuf.length ≤ 255) :
    exec .registerQuery s = .next (s.requestToken (some .registerQuery) s.issuer) ∧
      exec .registerWrite s = .next (s.requestToken (some .registerWrite) s.issuer) := by
  have hshort (op : ExOp) :
      s.requestRegisterExchange op s.issuer c = s.requestToken (some op) s.issuer :=
    if_neg (Nat.not_lt.mpr hl)
  exact ⟨(onCommand_eq h hc fun r c => s.requestRegisterExchange .registerQuery r c).trans
      (congrArg _ (hshort _)),
    (onCommand_eq h hc fun r c => s.requestRegisterExchange .registerWrite r c).trans
      (congrArg _ (hshort _))⟩

include hfree in
theorem State.LinkInv.drain_idle_of_free (hinv : s.LinkInv) :
    s.drs = .idle ∧ s.drOwner = none ∧ s.txflight = [] := by
  obtain ⟨-, -, hdrain, -, -, hdrs, hflight, -, -⟩ := hinv
  have hnone := State.owner_eq_none_of_free hdrain hfree
  have hidle := hdrs.mpr hnone
  refine ⟨hidle, hnone, by_contra fun hne => ?_⟩
  exact absurd (hidle.symm.trans (hflight hne)) (by decide)

include h hinv hfree hc

/-- The five steps every exchange begins with: the request, the grant, the write, the swap and the
transport write (47_exchange.md R316, steps 1 and 2). -/
theorem State.acts_begin {bs : Bytes} (hl : (exchangePayload op c).length ≤ 255)
    (hcommand : s.act (.command s.issuer bs) = .next (s.requestToken (some op) s.issuer))
    (sts : List Stimulus) :
    s.acts (.command s.issuer bs :: .grant s.issuer :: .exchange s.issuer :: .exchange s.issuer ::
      .txWrite :: sts) = (s.flushing op c).acts sts := by
  obtain ⟨hissuer, hfatal, hwait, -, -, -⟩ := h
  obtain ⟨hdrs, -, hflight⟩ := hinv.drain_idle_of_free hfree
  let asked : State := { s with
    waiters := waitersInsert s.issuer s.waiters
    clients := s.clients.modify s.issuer fun c => { c with exOp := some op } }
  let begun : State := { s with
    token := .held s.issuer, clients := s.clients.modify s.issuer (Client.begun op) }
  let wrote : State := { s with
    token := .held s.issuer, clients := s.clients.modify s.issuer (Client.wrote op)
    txbuf := s.txbuf ++ s.exchangeFrame op c, crcAcc := s.exchangeCrc op c }
  let swapped : State := { wrote with
    txflight := wrote.txbuf, txbuf := [], drOwner := some s.issuer, drs := .write }
  have hask : s.requestToken (some op) s.issuer = asked :=
    State.requestToken_of_other (by rw [hfree]; nofun) _
  have hgrant : asked.grant s.issuer = begun := by
    have hmem : s.issuer ∈ asked.waiters := (mem_waitersInsert _ _ _).mpr (.inl rfl)
    rw [State.grant_of_exchange (s := asked) hfatal hfree hmem (getElem?_modify_self hc _) nofun]
    simp only [asked, begun, waitersErase_waitersInsert hwait, List.modify_modify_eq]
    rfl
  have hwrite : begun.exchangeStep s.issuer = wrote := by
    have hclient : begun.clients[s.issuer]? = some (c.begun op) := getElem?_modify_self hc _
    rw [State.exchangeStep_of_unwritten (s := begun) (c := c.begun op) hfatal hclient rfl rfl rfl rfl,
      State.writeExchangeFrame_of_le (by rwa [exchangePayload_begun]), exchangePayload_begun]
    simp only [begun, wrote, List.modify_modify_eq]
    rfl
  have hswap : wrote.exchangeStep s.issuer = swapped := by
    obtain ⟨hexs, hop, hwritten, -, -⟩ := Client.wrote_link op c
    exact State.exchangeStep_of_written (s := wrote) hfatal (getElem?_modify_self hc _) hexs hop rfl
      hwritten hdrs
  have hsend : swapped.txWrite = s.flushing op c := by
    have hstep : swapped.txWrite =
        { swapped with wire := s.wire ++ (s.txbuf ++ s.exchangeFrame op c), txflight := [], drs := .flush } := by
      simp [State.txWrite, swapped, wrote, hfatal]
    rw [hstep, ← hflight, ← List.append_assoc]
    rfl
  rw [State.acts_cons (hcommand.trans (congrArg _ hask)), State.acts_grant hgrant,
    State.acts_exchange hwrite, State.acts_exchange hswap, State.acts_txWrite hsend]

/-- The frame of an exchange without a reply is out: EX_SENT (47_exchange.md R316). -/
theorem State.txFlushed_flushing_sent (hop : op.hasReply = false) :
    (s.flushing op c).txFlushed = { s with
      token := .held s.issuer
      clients := s.clients.modify s.issuer fun c => { c.wrote op with exs := .sent }
      txbuf := [], wire := s.wire ++ s.txbuf ++ s.exchangeFrame op c
      crcAcc := s.exchangeCrc op c } := by
  obtain ⟨hdrs, howner, -⟩ := hinv.drain_idle_of_free hfree
  obtain ⟨-, hexOp, -, hcan, -⟩ := Client.wrote_link op c
  have hclient : (s.flushing op c).clients[s.issuer]? = some (c.wrote op) := getElem?_modify_self hc _
  have hflush : (s.flushing op c).txFlushed =
      ({ s.flushing op c with drs := .idle, drOwner := none }).modClient s.issuer
        fun c => { c with exs := .sent } := by
    simp only [State.txFlushed, State.flushing, h.2.1] at hclient ⊢
    simp [hclient, State.drained, hcan, hexOp, hop]
  rw [hflush, ← hdrs, ← howner]
  simp only [State.modClient, State.flushing, List.modify_modify_eq]
  rfl

/-- The frame of an exchange with a reply is out: EX_AWAIT, its read accepted (47_exchange.md R318). -/
theorem State.txFlushed_flushing_await (hop : op.hasReply = true) :
    (s.flushing op c).txFlushed = State.acceptRead s.issuer (some c.destId) { s with
      token := .held s.issuer
      clients := s.clients.modify s.issuer fun c => { c.wrote op with exs := .await }
      txbuf := [], wire := s.wire ++ s.txbuf ++ s.exchangeFrame op c
      crcAcc := s.exchangeCrc op c } := by
  obtain ⟨hdrs, howner, -⟩ := hinv.drain_idle_of_free hfree
  obtain ⟨-, hexOp, -, hcan, hdest⟩ := Client.wrote_link op c
  have hclient : (s.flushing op c).clients[s.issuer]? = some (c.wrote op) := getElem?_modify_self hc _
  have hflush : (s.flushing op c).txFlushed =
      State.acceptRead s.issuer (some c.destId)
        (({ s.flushing op c with drs := .idle, drOwner := none }).modClient s.issuer
          fun c => { c with exs := .await }) := by
    simp only [State.txFlushed, State.flushing, h.2.1] at hclient ⊢
    simp [hclient, State.drained, hcan, hexOp, hop, hdest]
  rw [hflush, ← hdrs, ← howner]
  simp only [State.modClient, State.flushing, List.modify_modify_eq]
  rfl

/-- A whole exchange without a reply: its frame on WIRE, Done, the token free (47_exchange.md R319,
R320). -/
theorem State.acts_without_reply {bs : Bytes} (hop : op = .registerWrite ∨ op = .streamDrain)
    (hl : (exchangePayload op c).length ≤ 255)
    (hcommand : s.act (.command s.issuer bs) = .next (s.requestToken (some op) s.issuer)) :
    s.acts [.command s.issuer bs, .grant s.issuer, .exchange s.issuer, .exchange s.issuer, .txWrite,
        .txFlushed, .exchange s.issuer] =
      .next { s with
        clients := s.clients.modify s.issuer fun c => (c.wrote op).atRest
        txbuf := [], wire := s.wire ++ s.txbuf ++ s.exchangeFrame op c
        crcAcc := s.exchangeCrc op c
        results := s.results ++ [(s.issuer, .done)] } := by
  have hreply : op.hasReply = false := (ExOp.hasReply_eq_false_iff op).mpr hop
  let sent : State := { s with
    token := .held s.issuer
    clients := s.clients.modify s.issuer fun c => { c.wrote op with exs := .sent }
    txbuf := [], wire := s.wire ++ s.txbuf ++ s.exchangeFrame op c, crcAcc := s.exchangeCrc op c }
  have hend : sent.exchangeStep s.issuer = sent.endCommand s.issuer .done := by
    obtain ⟨-, hexOp, -, -, -⟩ := Client.wrote_link op c
    exact State.exchangeStep_of_sent (s := sent) h.2.1 (getElem?_modify_self hc _) rfl
      (hop.imp (fun heq => hexOp.trans (congrArg some heq)) fun heq => hexOp.trans (congrArg some heq))
  rw [State.acts_begin h hinv hfree hc hl hcommand,
    State.acts_txFlushed (State.txFlushed_flushing_sent h hinv hfree hc hreply),
    State.acts_exchange hend, State.endCommand_eq]
  simp only [State.acts, sent, List.modify_modify_eq, hfree]
  rfl

end Start

/-- Settles O45: `State.acts_without_reply`, the payload being REQBUF. -/
theorem registerWriteRuns : Obligations.RegisterWriteRuns := by
  unfold Obligations.RegisterWriteRuns
  intro s c h hinv hfree hc hl
  exact State.acts_without_reply h hinv hfree hc (.inl rfl) hl
    ((State.act_command rfl).trans (exec_registerExchange hc h hl).2)

/-- Settles O46: `State.acts_without_reply`, the payload being the chunk's sub-frame. -/
theorem streamDrainRuns : Obligations.StreamDrainRuns := by
  unfold Obligations.StreamDrainRuns
  intro s c h hinv hfree hc hne r chunk p f
  have hp : c2s c.channel chunk = p := c2s_eq c.channel chunk
  have hlen : p.length ≤ 107 := hp ▸ length_c2s_le c.channel (List.length_take_le _ _)
  have hexec : exec .streamDrain s = .next (s.requestToken (some .streamDrain) s.issuer) :=
    (onCommand_eq h hc fun r c =>
      if c.wrbuf = [] then s.ret r .done else s.requestToken (some .streamDrain) r).trans
      (congrArg _ (if_neg hne))
  have hpayload : exchangePayload .streamDrain c = p := hp
  refine ⟨hlen, ?_⟩
  have hrun := State.acts_without_reply h hinv hfree hc (.inr rfl) (by rw [hpayload]; omega)
    ((State.act_command (bs := [0x39]) rfl).trans hexec)
  rw [State.exchangeFrame, State.exchangeCrc, hpayload] at hrun
  exact hrun

end Sys2Proof.Machine
end

section
/-! Exchanges with a reply (47_exchange.md R318, R321, R322, R325): the reply received, its decode, and the
step or the cancel that ends the exchange. -/

namespace Sys2Proof.Machine

open Sys2Proof

/-! ### The awaited read -/

/-- The exchange `op` of the issuer awaits its reply (47_exchange.md R316, R318 step 3). -/
def State.awaiting (op : ExOp) (c : Client) (s : State) : State :=
  State.acceptRead s.issuer (some c.destId) { s with
    token := .held s.issuer
    clients := s.clients.modify s.issuer fun c => { c.wrote op with exs := .await }
    txbuf := [], wire := s.wire ++ s.txbuf ++ s.exchangeFrame op c
    crcAcc := s.exchangeCrc op c }

section Await

variable {s : State} {c : Client} {op : ExOp} (h : s.CanIssue) (hinv : s.LinkInv)
  (hfree : s.token = .free) (hc : s.clients[s.issuer]? = some c)

include h hinv hfree hc in
theorem State.acts_await {bs : Bytes} (hop : op.hasReply = true)
    (hl : (exchangePayload op c).length ≤ 255)
    (hcommand : s.act (.command s.issuer bs) = .next (s.requestToken (some op) s.issuer))
    (sts : List Stimulus) :
    s.acts (.command s.issuer bs :: .grant s.issuer :: .exchange s.issuer :: .exchange s.issuer ::
      .txWrite :: .txFlushed :: sts) = (s.awaiting op c).acts sts := by
  rw [State.acts_begin h hinv hfree hc hl hcommand,
    State.acts_txFlushed (State.txFlushed_flushing_await h hinv hfree hc hop)]
  rfl

include h in
theorem State.awaiting_readStarted : (s.awaiting op c).ReadStarted s.issuer :=
  ⟨h.2.1, rfl, rfl, rfl, rfl, rfl⟩

include hc in
theorem State.awaiting_client :
    (s.awaiting op c).clients[s.issuer]? = some { c.wrote op with exs := .await } :=
  getElem?_modify_self hc _

end Await

/-- Settles O48: the read the drain was followed by ends by its time-out. -/
theorem unansweredQueryTimesOut : Obligations.UnansweredQueryTimesOut := by
  unfold Obligations.UnansweredQueryTimesOut
  intro s c h hinv hfree hc hl r
  let u : State := s.awaiting .registerQuery c
  have htimeout : u.timeout r = u.endRead .timeout := by
    have howner : u.rx.owner = some r := rfl
    have hstate : u.rx.state = .hdr := rfl
    have hfatal : u.fatal = false := h.2.1
    simp [State.timeout, hfatal, howner, hstate]
  have hend := State.endRead_of_exchange (s := u) (r := r) (op := .registerQuery) rfl
    (State.awaiting_client hc) rfl .timeout
  have hruns := State.acts_await h hinv hfree hc (op := .registerQuery) rfl hl
    ((State.act_command (bs := [0x30]) rfl).trans (exec_registerExchange hc h hl).1) [.timeout r]
  refine ⟨_, hruns.trans (congrArg Host.Outcome.next (htimeout.trans hend)), rfl, rfl, h.2.1, rfl, rfl,
    rfl, ?_, rfl⟩
  exact List.modify_modify_eq ..

/-! ### The frame of the reply -/

section Reply

variable {s : State} {r : Nat} {c : Client} {op : ExOp} {src dst : Byte} {payload : Bytes}
  {crc : BitVec 16}

/-- A frame of the peer whose CRC is right or not enforced is decoded (47_exchange.md R321). -/
theorem State.endOfFrame_of_reply (hop : c.exOp = some op) (hfilter : s.rx.filter = some c.destId)
    (hsrc : src.setWidth 7 = c.destId)
    (hcrc : decide (frameCrc src dst payload = crc) = true ∨ s.crcEnforce = false) (rest : Bytes) :
    s.endOfFrame src dst payload crc rest r c =
      (s.tookFrame src dst payload crc rest).decodeExchange op r c
        (reportedFrame src dst payload crc) := by
  have hnotEnforced : ¬ (frameCrc src dst payload ≠ crc ∧ s.crcEnforce = true) := by
    rintro ⟨hne, henforce⟩
    obtain hok | hno := hcrc
    · exact hne (of_decide_eq_true hok)
    · exact absurd (henforce.symm.trans hno) (by decide)
  have hpeer : s.rx.filter = none ∨ s.rx.filter = some (src.setWidth 7) := .inr (hsrc ▸ hfilter)
  rw [State.endOfFrame, if_neg hnotEnforced, if_pos hpeer]
  simp only [State.finishRead, hop, State.exchangeRead]

/-- The frame as a stimulus, the read just begun and nothing queued (log 7). -/
theorem State.act_frame_of_reply (h : s.ReadStarted r) (hc : s.clients[r]? = some c)
    (hop : c.exOp = some op) (hfilter : s.rx.filter = some c.destId) (hsrc : src.setWidth 7 = c.destId)
    (hl : payload.length ≤ 255) (hq : s.rxq = [])
    (hcrc : decide (frameCrc src dst payload = crc) = true ∨ s.crcEnforce = false) :
    s.act (.frame (wireFrame src dst payload crc)) =
      .next ((s.tookFrame src dst payload crc []).decodeExchange op r c
        (reportedFrame src dst payload crc)) := by
  have hd := decodeFrame_wireFrame src dst payload crc [] hl
  rw [List.append_nil] at hd
  have hact : s.act (.frame (wireFrame src dst payload crc)) =
      .next (s.deliver (wireFrame src dst payload crc)) := by
    simp only [State.act, State.runFrame, hd]
    rfl
  rw [hact, h.deliver_eq hc hl hq, State.endOfFrame_of_reply hop hfilter hsrc hcrc]

theorem State.cancel_of_decoded (hfatal : s.fatal = false) (hc : s.clients[r]? = some c)
    (hwait : r ∉ s.waiters) (hdrain : s.drOwner ≠ some r) (hread : s.rx.owner ≠ some r)
    (hx : c.exs = .decoded) :
    s.cancel r = (s.modClient r Client.takeBack).endCommand r (cancelResult c.exOp) := by
  simp [State.cancel, hfatal, hc, hwait, hdrain, hread, hx]

/-- A decoded exchange ends by its own step or by a cancel, either way with the token free (47_exchange.md
R316; log 11). -/
theorem State.decoded_ends {cs : List Client} {f : Client → Client} {res : Result}
    (hfatal : s.fatal = false) (hclients : s.clients = cs.modify r f) (hc : cs[r]? = some c)
    (hx : (f c).exs = .decoded) (hop : (f c).exOp = some op) (hres : (f c).outcome = some res)
    (hwait : r ∉ s.waiters) (hdrain : s.drOwner ≠ some r) (hread : s.rx.owner ≠ some r) :
    s.act (.exchange r) = .next { s with
      token := .free, clients := cs.modify r fun c => (f c).atRest
      results := s.results ++ [(r, res)] } ∧
    s.act (.cancel r) = .next { s with
      token := .free, clients := cs.modify r fun c => (f c).takeBack.atRest
      results := s.results ++ [(r, cancelResult (some op))] } := by
  have hclient : s.clients[r]? = some (f c) := hclients ▸ getElem?_modify_self hc f
  refine ⟨congrArg Host.Outcome.next ?_, congrArg Host.Outcome.next ?_⟩
  · rw [State.exchangeStep_of_decoded hfatal hclient hx hop hres, State.endCommand_eq, hclients,
      List.modify_modify_eq]
    rfl
  · rw [State.cancel_of_decoded hfatal hclient hwait hdrain hread hx, hop, State.endCommand_eq,
      State.modClient, hclients, List.modify_modify_eq, List.modify_modify_eq]
    rfl

end Reply

/-! ### The register reply -/

section Query

variable {is : List Instr} (his : WholeReplies is) {tail : Bytes}
include his

/-- Every stopping tail stops the parse, its entries entered (45_register_reply_decoder.md R265, R278). -/
theorem parsePayload_of_stops {why : StopReason} {es : List (Nat × Entry)} (h : TailStops tail why es) :
    ∃ rd, parsePayload (is.flatMap encode ++ tail) =
      (.stop why, rd, ReplyMap.insertAll es (replyFold is [])) := by
  obtain ⟨rfl, rfl, htail⟩ | ⟨rfl, rfl, id, n, hdisc, hid⟩ | ⟨rfl, ⟨rfl, htail⟩ | ⟨id, n, hdisc, hlow,
    hhigh, ⟨rfl, hends⟩ | ⟨index, k, hindex, ⟨rfl, ty, hty, hcut⟩ | ⟨rfl, hcode, hends⟩ | ⟨count, j,
      hcount, ty, hty, hcut, rfl⟩⟩⟩⟩ := h
  · exact ⟨_, parsePayload_of_exhausted his htail⟩
  · exact ⟨_, parsePayload_of_unknown his hdisc hid⟩
  · exact ⟨_, parsePayload_of_truncated his htail⟩
  · exact ⟨_, parsePayload_of_error his fun _ => decodeReply_of_index_ends hdisc hlow hhigh hends⟩
  · exact ⟨_, parsePayload_of_error his fun _ => decodeReply_of_value_short hdisc hindex hty hcut⟩
  · exact ⟨_, parsePayload_of_error his fun _ =>
      decodeReply_of_second_ends hdisc hindex hcode hhigh hends⟩
  · have hcutParse := parsePayload_of_cut his hdisc hindex hcount hty hcut
    rw [wholeChunks, List.map_map] at hcutParse
    exact ⟨_, hcutParse⟩

theorem parsePayload_of_fieldOverlong (h : ReplyFieldOverlong tail) :
    ∃ rd, parsePayload (is.flatMap encode ++ tail) = (.overlong, rd, replyFold is []) := by
  obtain hdisc | ⟨id, n, hdisc, hlow, hhigh, hindex | ⟨index, k, hindex, hcode, hsecond⟩⟩ := h
  · exact ⟨_, parsePayload_of_overlong his hdisc⟩
  · exact ⟨_, parsePayload_of_error his fun _ =>
      decodeReply_of_index_overlong hdisc hlow hhigh hindex⟩
  · exact ⟨_, parsePayload_of_error his fun _ =>
      decodeReply_of_second_overlong hdisc hindex hcode hhigh hsecond⟩

end Query

section Decode

variable {s : State} {r : Nat} {c : Client} {f : Frame} {rd : Reader} {m : ReplyMap}

theorem State.decodeExchange_of_stop {why : StopReason}
    (h : parsePayload f.payload = (.stop why, rd, m)) :
    s.decodeExchange .registerQuery r c f =
      (((s.modClient r fun c => { c with exs := .decoded }).parsed f.payload rd m).stop why).conclude r
        (.reply m why f.crcOk) := by
  simp only [State.decodeExchange, State.decodeQuery, State.runParse_of_stop h]
  rfl

theorem State.decodeExchange_of_overlong (h : parsePayload f.payload = (.overlong, rd, m)) :
    s.decodeExchange .registerQuery r c f =
      ((s.modClient r fun c => { c with exs := .decoded }).parsed f.payload rd m).raise
        .varuintOverlong r := by
  simp only [State.decodeExchange, State.decodeQuery, State.runParse_of_overlong h]

end Decode

theorem stopEvents_eq (why : StopReason) :
    stopEvents why = if why = .exhausted then [] else [Event.parseStop why] := by
  cases why <;> rfl

/-- Settles O47: the run up to the read, the frame's decode by `parsePayload_of_stops`, and the two ways out
of EX_DECODED. -/
theorem registerQueryRuns : Obligations.RegisterQueryRuns := by
  unfold Obligations.RegisterQueryRuns
  intro s c src dst is tail why es crc h hinv hfree hc hl hq hsrc his htail hlen r m p ok hcrc
  obtain ⟨rd, hparse⟩ := parsePayload_of_stops his htail
  obtain ⟨hdrs, hdrain, -⟩ := hinv.drain_idle_of_free hfree
  let a : State := s.awaiting .registerQuery c
  let w : State := (a.tookFrame src dst p crc []).modClient r fun c => { c with exs := .decoded }
  let u : State := ((w.parsed p rd m).stop why).conclude r (.reply m why ok)
  have hframe : a.act (.frame (wireFrame src dst p crc)) = .next u := by
    refine (State.act_frame_of_reply (State.awaiting_readStarted h) (State.awaiting_client hc) rfl rfl
      hsrc hlen hq hcrc).trans (congrArg Host.Outcome.next ?_)
    exact State.decodeExchange_of_stop hparse
  have hruns := State.acts_await h hinv hfree hc (op := .registerQuery) rfl hl
    ((State.act_command (bs := [0x30]) rfl).trans (exec_registerExchange hc h hl).1)
    [.frame (wireFrame src dst p crc)]
  have hclients : u.clients = s.clients.modify r fun c =>
      { c.wrote .registerQuery with exs := .decoded, outcome := some (.reply m why ok) } := by
    change (((s.clients.modify r _).modify r _).modify r _) = _
    rw [List.modify_modify_eq, List.modify_modify_eq]
    rfl
  obtain ⟨hstep, hcancel⟩ := State.decoded_ends (s := u) (op := .registerQuery) h.2.1 hclients hc rfl rfl
    rfl h.2.2.1 (by rw [show u.drOwner = s.drOwner from rfl, hdrain]; nofun) nofun
  refine ⟨u, _, _, hruns.trans ?_, ?_, rfl, rfl, rfl, hstep, rfl, rfl, rfl, rfl, h.2.1, ?_, rfl, rfl, rfl,
    hdrs, rfl, rfl, rfl, rfl, hcancel, rfl⟩
  · rw [State.acts_cons hframe]
    rfl
  · rw [State.exsOf, hclients, getElem?_modify_self hc]
    rfl
  · rw [← stopEvents_eq]
    simp only [ok, decide_eq_true_eq]
    rfl

end Sys2Proof.Machine
end

section
/-! The stream reply (46_stream_subframes.md R302, R303): the three varuints of its first sub-frame, what
STREAM_POLL makes of them, and the overlong field that is fatal (47_exchange.md R325). -/

namespace Sys2Proof.Machine

open Sys2Proof

/-! ### The fields of a stream reply -/

/-- The code, the channel and the length (46_stream_subframes.md R302). -/
def streamFields (rd : Reader) : Read (VuValue × VuValue × VuValue) :=
  (rdVu rd).bind fun id rd => (rdVu rd).bind fun channel rd => (rdVu rd).bind fun len rd =>
    (.ok (id, channel, len), rd)

section Fields

variable {rd rd' : Reader}

theorem s2c_of_fields {id channel len : VuValue} (h : streamFields rd = (.ok (id, channel, len), rd')) :
    s2c rd =
      if id ≠ 0x41 then (.reject, rd')
      else if rd'.pay.length < rd'.cur + len.toNat then (.reject, rd')
      else (.accept channel ((rd'.pay.drop rd'.cur).take len.toNat), rd') := by
  rw [streamFields] at h
  simp only [s2c, h]

theorem s2c_of_fields_truncated (h : streamFields rd = (.error .truncated, rd')) :
    s2c rd = (.reject, rd') := by
  rw [streamFields] at h
  simp only [s2c, h]

theorem s2c_of_fields_overlong (h : streamFields rd = (.error .overlong, rd')) :
    s2c rd = (.overlong, rd') := by
  rw [streamFields] at h
  simp only [s2c, h]

end Fields

/-- A parser that has read nothing yet stands at the front of its bytes. -/
theorem start_eq_readerAt (payload : Bytes) :
    Reader.start payload = readerAt [] payload 0 VuRegs.zero := rfl

section Stream

variable {payload : Bytes} {id channel len : VuValue} {n k j : Nat}

/-- A reader that stops at its first varuint stops there in a stream reply. -/
theorem streamFields_of_first {e : Reject} {rd : Reader}
    (h : rdVu (readerAt [] payload 0 VuRegs.zero) = (.error e, rd)) :
    streamFields (Reader.start payload) = (.error e, rd) := by
  rw [start_eq_readerAt, streamFields, h]
  rfl

section Id

variable (hid : (vuDec payload 0).1 = .value id n)
include hid

theorem rdVu_start : rdVu (Reader.start payload) = (.ok id, readerAt [] payload n (vuDec payload 0).2) := by
  rw [start_eq_readerAt, rdVu_readerAt_of_value hid, Nat.zero_add]

theorem streamFields_of_second {e : Reject} {rd : Reader}
    (h : rdVu (readerAt [] payload n (vuDec payload 0).2) = (.error e, rd)) :
    streamFields (Reader.start payload) = (.error e, rd) := by
  rw [streamFields, rdVu_start hid]
  change (rdVu (readerAt [] payload n (vuDec payload 0).2)).bind _ = _
  rw [h]
  rfl

section Channel

variable (hchannel : (vuDec payload n).1 = .value channel k)
include hchannel

theorem streamFields_third : streamFields (Reader.start payload) =
    (rdVu (readerAt [] payload (n + k) (vuDec payload n).2)).bind fun len rd =>
      (.ok (id, channel, len), rd) := by
  rw [streamFields, rdVu_start hid]
  change (rdVu (readerAt [] payload n (vuDec payload 0).2)).bind _ = _
  rw [rdVu_readerAt_of_value hchannel]
  rfl

theorem streamFields_of_third {e : Reject} {rd : Reader}
    (h : rdVu (readerAt [] payload (n + k) (vuDec payload n).2) = (.error e, rd)) :
    streamFields (Reader.start payload) = (.error e, rd) := by
  rw [streamFields_third hid hchannel, h]
  rfl

/-- All three are there: the sub-frame is accepted when its code is 0x41 and its data are whole. -/
theorem s2c_of_values (hlen : (vuDec payload (n + k)).1 = .value len j) :
    ∃ rd, s2c (Reader.start payload) =
      (if id ≠ 0x41 ∨ payload.length < n + k + j + len.toNat then .reject
       else .accept channel ((payload.drop (n + k + j)).take len.toNat), rd) := by
  have hfields : streamFields (Reader.start payload) =
      (.ok (id, channel, len), readerAt [] payload (n + k + j) (vuDec payload (n + k)).2) := by
    rw [streamFields_third hid hchannel, rdVu_readerAt_of_value hlen]
    rfl
  have hcur : (readerAt [] payload (n + k + j) (vuDec payload (n + k)).2).cur = n + k + j :=
    Nat.zero_add _
  refine ⟨readerAt [] payload (n + k + j) (vuDec payload (n + k)).2, (s2c_of_fields hfields).trans ?_⟩
  rw [hcur]
  by_cases hreject : id ≠ 0x41 ∨ payload.length < n + k + j + len.toNat
  · rw [if_pos hreject]
    by_cases hcode : id = 0x41
    · exact (if_neg (not_not.mpr hcode)).trans (if_pos (hreject.resolve_left (not_not.mpr hcode)))
    · exact if_pos hcode
  · obtain ⟨hcode, hwhole⟩ := not_or.mp hreject
    rw [if_neg hreject]
    exact (if_neg hcode).trans (if_neg hwhole)

end Channel

end Id

theorem s2c_of_accepts {data : Bytes} (h : StreamAccepts payload channel data) :
    ∃ rd, s2c (Reader.start payload) = (.accept channel data, rd) := by
  obtain ⟨n, k, j, len, hid, hchannel, hlen, hwhole, rfl⟩ := h
  obtain ⟨rd, hs2c⟩ := s2c_of_values hid hchannel hlen
  refine ⟨rd, hs2c.trans ?_⟩
  rw [if_neg (by simp [hwhole])]

theorem s2c_of_rejects (h : StreamRejects payload) :
    ∃ rd, s2c (Reader.start payload) = (.reject, rd) := by
  obtain hends | ⟨id, n, hid, hends | ⟨channel, k, hchannel, hends | ⟨len, j, hlen, hreject⟩⟩⟩ := h
  · exact ⟨_, s2c_of_fields_truncated (streamFields_of_first (rdVu_readerAt_of_ends hends))⟩
  · exact ⟨_, s2c_of_fields_truncated (streamFields_of_second hid (rdVu_readerAt_of_ends hends))⟩
  · exact ⟨_, s2c_of_fields_truncated (streamFields_of_third hid hchannel (rdVu_readerAt_of_ends hends))⟩
  · obtain ⟨rd, hs2c⟩ := s2c_of_values hid hchannel hlen
    exact ⟨rd, hs2c.trans (by rw [if_pos hreject])⟩

theorem s2c_of_overlong (h : StreamFieldOverlong payload) :
    ∃ rd, s2c (Reader.start payload) = (.overlong, rd) := by
  obtain hid | ⟨id, n, hid, hchannel | ⟨channel, k, hchannel, hlen⟩⟩ := h
  · exact ⟨_, s2c_of_fields_overlong (streamFields_of_first (rdVu_readerAt_of_overlong hid))⟩
  · exact ⟨_, s2c_of_fields_overlong (streamFields_of_second hid (rdVu_readerAt_of_overlong hchannel))⟩
  · exact ⟨_, s2c_of_fields_overlong
      (streamFields_of_third hid hchannel (rdVu_readerAt_of_overlong hlen))⟩

/-- An encoded STREAM_S2C is a whole first sub-frame, whatever follows it (46_stream_subframes.md R301). -/
theorem streamAccepts_encode {channel : VuValue} {data : Bytes} (tail : Bytes) (hl : data.length ≤ 255) :
    StreamAccepts (encode (.streamS2c channel data) ++ tail) channel data := by
  let count : VuValue := BitVec.ofNat 35 data.length
  have hcount : count.toNat = data.length := Nat.mod_eq_of_lt (by omega)
  have hcode : vuEnc35 0x41 = [0x41] := by decide
  have hbytes : encode (.streamS2c channel data) ++ tail =
      vuEnc35 0x41 ++ (vuEnc35 channel ++ (vuEnc35 count ++ (data ++ tail))) := by
    simp only [encode, vuCount, hcode, count, List.cons_append, List.nil_append, List.append_assoc]
  rw [hbytes]
  refine ⟨_, _, _, count, vuDec_vuEnc35_prefix rfl, vuDec_vuEnc35_prefix List.drop_left,
    vuDec_vuEnc35_prefix (rest := data ++ tail) ?_, ?_, ?_⟩
  · rw [← List.drop_drop, List.drop_left, List.drop_left]
  · simp only [List.length_append, hcount]
    omega
  · rw [← List.drop_drop, ← List.drop_drop, List.drop_left, List.drop_left, List.drop_left, hcount,
      List.take_left]

end Stream

/-! ### The decode of the poll -/

section Decode

variable {s : State} {r : Nat} {c : Client} {f : Frame} {rd : Reader}

theorem State.decodeExchange_of_accept {channel : VuValue} {data : Bytes}
    (h : s2c (Reader.start f.payload) = (.accept channel data, rd)) :
    s.decodeExchange .streamPoll r c f =
      (State.acceptStream r c.channel channel data
        ((s.modClient r fun c => { c with exs := .decoded }).fetched rd)).conclude r
          (.appended (acceptedCount c.channel channel data)) := by
  simp only [State.decodeExchange, State.decodePoll, h]

theorem State.decodeExchange_of_reject (h : s2c (Reader.start f.payload) = (.reject, rd)) :
    s.decodeExchange .streamPoll r c f =
      ((s.modClient r fun c => { c with exs := .decoded }).fetched rd).conclude r (.appended 0) := by
  simp only [State.decodeExchange, State.decodePoll, h]

theorem State.decodeExchange_of_s2c_overlong (h : s2c (Reader.start f.payload) = (.overlong, rd)) :
    s.decodeExchange .streamPoll r c f =
      ((s.modClient r fun c => { c with exs := .decoded }).fetched rd).raise .varuintOverlong r := by
  simp only [State.decodeExchange, State.decodePoll, h]

/-- A stream reply without an overlong field appends what it has for the requester's own channel, and the
exchange has its count (47_exchange.md R322). -/
theorem State.decodeExchange_of_poll {appended : Bytes}
    (h : StreamRejects f.payload ∧ appended = [] ∨
      ∃ channel data, StreamAccepts f.payload channel data ∧
        appended = if channel.toNat = c.channel.toNat then data else []) :
    ∃ rd, s.decodeExchange .streamPoll r c f = State.fetched rd { s with
      clients := s.clients.modify r fun c => { c with
        exs := .decoded, rdbuf := c.rdbuf ++ appended
        outcome := some (.appended appended.length) } } := by
  obtain ⟨hreject, rfl⟩ | ⟨channel, data, haccept, rfl⟩ := h
  · obtain ⟨rd, hs2c⟩ := s2c_of_rejects hreject
    refine ⟨rd, (State.decodeExchange_of_reject hs2c).trans ?_⟩
    simp only [State.conclude, State.fetched, State.modClient, List.modify_modify_eq, List.append_nil]
    rfl
  · obtain ⟨rd, hs2c⟩ := s2c_of_accepts haccept
    refine ⟨rd, (State.decodeExchange_of_accept hs2c).trans ?_⟩
    have hown : channel = c.channel.setWidth 35 ↔ channel.toNat = c.channel.toNat := by
      rw [← BitVec.toNat_inj, BitVec.toNat_setWidth_of_le (by decide)]
    by_cases heq : channel.toNat = c.channel.toNat
    · rw [State.acceptStream, acceptedCount, if_pos (hown.mpr heq), if_pos (hown.mpr heq), if_pos heq]
      simp only [State.conclude, State.fetched, State.modClient, List.modify_modify_eq]
      rfl
    · rw [State.acceptStream, acceptedCount, if_neg (mt hown.mp heq), if_neg (mt hown.mp heq),
        if_neg heq]
      simp only [State.conclude, State.fetched, State.modClient, List.modify_modify_eq,
        List.append_nil]
      rfl

end Decode

/-- What a poll's decode appended is taken back by a cancel (47_exchange.md R324; log 11). -/
theorem Client.atRest_takeBack_appended (c : Client) (appended : Bytes) :
    Client.atRest (Client.takeBack { c with
      rdbuf := c.rdbuf ++ appended, outcome := some (.appended appended.length) }) = c.atRest := by
  simp [Client.takeBack, Client.atRest]

/-- Settles O49: the run up to the read, the frame's decode by `State.decodeExchange_of_poll`, and the two
ways out of EX_DECODED. -/
theorem streamPollRuns : Obligations.StreamPollRuns := by
  unfold Obligations.StreamPollRuns
  refine ⟨fun channel data tail hl => streamAccepts_encode tail hl, ?_⟩
  intro s c src dst p appended crc h hinv hfree hc hq hsrc hlen hreply r ok hcrc
  obtain ⟨hdrs, hdrain, -⟩ := hinv.drain_idle_of_free hfree
  let a : State := s.awaiting .streamPoll c
  let f : Client → Client := fun c => { c.wrote .streamPoll with
    exs := .decoded, rdbuf := c.rdbuf ++ appended, outcome := some (.appended appended.length) }
  obtain ⟨rd, hdecode⟩ := State.decodeExchange_of_poll (s := a.tookFrame src dst p crc []) (r := r)
    (c := { c.wrote .streamPoll with exs := .await }) (f := reportedFrame src dst p crc) hreply
  let u : State := State.fetched rd { a.tookFrame src dst p crc [] with
    clients := s.clients.modify r f }
  have hframe : a.act (.frame (wireFrame src dst p crc)) = .next u := by
    refine (State.act_frame_of_reply (State.awaiting_readStarted h) (State.awaiting_client hc) rfl rfl
      hsrc hlen hq hcrc).trans (congrArg Host.Outcome.next (hdecode.trans ?_))
    have hclients : (a.tookFrame src dst p crc []).clients =
        s.clients.modify r fun c => { c.wrote .streamPoll with exs := .await } := rfl
    rw [hclients, List.modify_modify_eq]
    rfl
  have hexec : exec .streamPoll s = .next (s.requestToken (some .streamPoll) s.issuer) :=
    onCommand_eq h hc fun r _ => s.requestToken (some .streamPoll) r
  have hpayload : (exchangePayload .streamPoll c).length ≤ 255 :=
    length_exchangePayload_le fun hop => by simp at hop
  have hruns := State.acts_await h hinv hfree hc (op := .streamPoll) rfl hpayload
    ((State.act_command (bs := [0x3A]) rfl).trans hexec) [.frame (wireFrame src dst p crc)]
  obtain ⟨hstep, hcancel⟩ := State.decoded_ends (s := u) (f := f) (op := .streamPoll) h.2.1 rfl hc rfl rfl
    rfl h.2.2.1 (by rw [show u.drOwner = s.drOwner from rfl, hdrain]; nofun) nofun
  refine ⟨u, _, _, hruns.trans ?_, ?_, rfl, rfl, rfl, ⟨_, getElem?_modify_self hc f, rfl⟩, hstep, rfl, ?_,
    rfl, h.2.1, rfl, rfl, rfl, hdrs, rfl, ?_, rfl, rfl, rfl, rfl, hcancel, ?_⟩
  · rw [State.acts_cons hframe]
    rfl
  · have hclient : u.clients[r]? = some (f c) := getElem?_modify_self hc f
    rw [State.exsOf, hclient]
    rfl
  · simp only [ok, decide_eq_true_eq]
    rfl
  · rw [← c2s_nil]
    rfl
  · have hback : (fun c => (f c).takeBack.atRest) = Client.atRest := funext fun c =>
      Client.atRest_takeBack_appended { c.wrote .streamPoll with exs := .decoded } appended
    rw [hback]
    rfl

/-- Settles O51: the reply is decoded up to its overlong field, which raises the fault. -/
theorem overlongReplyIsFatal : Obligations.OverlongReplyIsFatal := by
  unfold Obligations.OverlongReplyIsFatal
  intro s r c src dst payload rest crc hinv h hc hfilter hsrc hl hfield hq ok hcrc t
  have ⟨hfatal, _, _, _, _, howner⟩ := h
  obtain ⟨-, -, -, hread, -⟩ := hinv
  obtain ⟨htoken, -⟩ := hread r howner
  let w : State := (s.tookFrame src dst payload crc rest).modClient r fun c => { c with exs := .decoded }
  have ht : ∃ rd m, t = (w.parsed payload rd m).raise .varuintOverlong r ∨
      t = (w.fetched rd).raise .varuintOverlong r := by
    have hend {op : ExOp} (hop : c.exOp = some op) : t =
        (s.tookFrame src dst payload crc rest).decodeExchange op r c (reportedFrame src dst payload crc) :=
      (h.rxBytes_eq hc hl hq).trans (State.endOfFrame_of_reply hop hfilter hsrc hcrc rest)
    obtain ⟨hop, is, tail, rfl, his, htail⟩ | ⟨hop, hstream⟩ := hfield
    · obtain ⟨rd, hparse⟩ := parsePayload_of_fieldOverlong his htail
      exact ⟨rd, _, .inl ((hend hop).trans (State.decodeExchange_of_overlong hparse))⟩
    · obtain ⟨rd, hs2c⟩ := s2c_of_overlong hstream
      exact ⟨rd, [], .inr ((hend hop).trans (State.decodeExchange_of_s2c_overlong hs2c))⟩
  have hexs : w.exsOf r = .decoded := by
    have hclient : w.clients[r]? = some { c with exs := .decoded } := getElem?_modify_self hc _
    rw [State.exsOf, hclient]
    rfl
  have hcause : causeAfter s.fatal s.cause .varuintOverlong = 1 := by
    rw [hfatal]
    rfl
  have hevents : w.events = s.events ++ (if ok then [] else [Event.crcBad]) := by
    simp only [ok, decide_eq_true_eq]
    rfl
  rw [← hcause, ← hevents]
  obtain ⟨rd, m, ht | ht⟩ := ht <;> rw [ht] <;>
    exact ⟨rfl, rfl, rfl, rfl, rfl, htoken, hexs, rfl, rfl, rfl⟩

end Sys2Proof.Machine
end
